-- ==== Sys2Proof/Word.lean ====
section
/-! DEFINITION. The word types of the engine and the nine-byte frame (00_scope.md R8, 20_memory.md R70). -/

namespace Sys2Proof

/-- A byte, `B8` of 00_scope.md R8: bit 7 most significant. -/
abbrev Byte := BitVec 8

/-- A 16-bit value, `B16` or `S16` of 00_scope.md R8: ARG, PPM, TEMP. -/
abbrev Half := BitVec 16

/-- A 32-bit value: the host command word (30_encoding.md R100) and RESULT (10_state.md R48). -/
abbrev Word := BitVec 32

/-- The nine bytes of a frame, `F[0]` to `F[8]` in transmission order (20_memory.md R70). It is the type of the
working buffer BUF (10_state.md R34): nine bytes, no more and no fewer (30_encoding.md R112). -/
structure Frame where
  b0 : Byte
  b1 : Byte
  b2 : Byte
  b3 : Byte
  b4 : Byte
  b5 : Byte
  b6 : Byte
  b7 : Byte
  b8 : Byte
  deriving DecidableEq, Repr

end Sys2Proof
end

