-- ==== Sys2Proof/Config.lean ====
section
/-! DEFINITION. What an implementation fixes (the engine's parameters, 00_scope.md R6), what the outside world supplies to
one step (host pins and transport answers), and the free value behind it. -/

namespace Sys2Proof

/-- The parameters of 00_scope.md R6 that are not constants, the engine's control registers of 10_state.md R51. They
are kept in State (`cfg`), so that every statement holds for every value of them; the engine only reads them. -/
structure Config where
  /-- CMD byte of CAL_ZERO (10_state.md R54). -/
  cmdZero : Byte
  /-- CMD byte of CAL_SPAN (10_state.md R54). -/
  cmdSpan : Byte
  /-- CMD byte of SET_ABC (10_state.md R54). -/
  cmdAbc : Byte
  /-- CMD byte of SET_RANGE (10_state.md R54). -/
  cmdRange : Byte
  /-- POLL_MAX, the bound of each poll-wait loop, at least 1 (10_state.md R55, 00_scope.md R7). -/
  pollMax : Nat
  /-- POLL_DELAY, the argument of every SLEEP; no rule reads its value (10_state.md R55). -/
  pollDelay : Nat
  /-- ECHO_CHECK (10_state.md R52). -/
  echoCheck : Bool
  /-- FLUSH_ON_VALIDATION_FAIL (10_state.md R53). -/
  flushOnValidationFail : Bool
  deriving DecidableEq, Repr

/-- Everything the outside world supplies to ONE step: the host's pins (10_state.md R50, R51) and the answer the
transport gives if the step makes a call (the draws of 20_memory.md R75). A step reads the fields it has a use for and no
others. -/
structure Input where
  /-- RST: asserted between the step before and this one (70_reset_and_hazards.md R270). -/
  rst : Bool
  /-- START (10_state.md R50). -/
  start : Bool
  /-- CMD_WORD (10_state.md R50). -/
  cmdWord : Word
  /-- A new configuration the host sets before this step, if it sets one (10_state.md R51, 70_reset_and_hazards.md R285). -/
  config : Option Config
  /-- Whether a blocking transport call made in this step ever returns (70_reset_and_hazards.md R284, U8). -/
  returns : Bool
  /-- The count `T.write` answers. -/
  written : Nat
  /-- The count `T.available()` answers. -/
  available : Nat
  /-- The bytes `T.readBytes(9)` answers, the first delivered first; bytes beyond nine are ignored (20_memory.md R76). -/
  received : List Byte
  /-- The byte `T.read()` answers, or none. -/
  drained : Option Byte
  deriving DecidableEq, Repr, Inhabited

/-- FREE VALUE. The input of step number `n` where State lists none: any pins, any answers. It has no body, so nothing can
be proved of it (log 5). -/
opaque Config.freeInput : Nat → Input

end Sys2Proof
end

