-- ==== Sys2Proof/Machine/Params.lean ====
section
/-! DEFINITION. The constants of 00_scope.md R6 and the values its table gives the parameters. -/

namespace Sys2Proof.Machine

/-- `FRAME_LEN` (00_scope.md R6, 30_encoding.md R112). -/
def frameLen : Nat := 9

/-- `HDR`, byte 0 of every frame (00_scope.md R6, 30_encoding.md R104, R108). -/
def hdr : Byte := 0xFF

/-- `ADDR`, byte 1 of a command frame (00_scope.md R6, 30_encoding.md R104). -/
def addr : Byte := 0x01

/-- `CMD_READ`, the command byte of READ_CO2 (00_scope.md R6, 30_encoding.md R107). -/
def cmdRead : Byte := 0x86

/-- `ABC_ON`, the D0 byte that turns auto-calibration on (00_scope.md R6, 30_encoding.md R105). -/
def abcOn : Byte := 0xA0

/-- `SPAN_MIN` (00_scope.md R6, 41_frame_builder.md R147). -/
def spanMin : Nat := 1000

/-- `SPAN_MAX` (00_scope.md R6, 41_frame_builder.md R147). -/
def spanMax : Nat := 5000

/-- `RANGE_SET` (00_scope.md R6, 41_frame_builder.md R148). -/
def rangeSet : List Nat := [2000, 5000]

/-- `TEMP_OFFSET` (00_scope.md R6, 43_response_validator.md R206), in the nine bits the subtraction is made in. -/
def tempOffset : BitVec 9 := 40

/-- The configuration a reset machine is taken with: the defaults of 00_scope.md R6 (the CMD bytes are PRESUMED, general
knowledge by the spec's own mark, log 2), and for the OPEN parameters a DESIGN CHOICE (log 3): POLL_MAX = 3, the instance
95_test_vectors.md uses, and POLL_DELAY = 50, which no rule reads. -/
def defaultConfig : Config where
  cmdZero := 0x87
  cmdSpan := 0x88
  cmdAbc := 0x79
  cmdRange := 0x99
  pollMax := 3
  pollDelay := 50
  echoCheck := true
  flushOnValidationFail := true

end Sys2Proof.Machine
end

