-- ==== Sys2Proof/Machine/FrameOps.lean ====
section
/-! DEFINITION. Operations on a frame: its bytes by offset, the checksum generator and verifier (40_checksum.md), the
serial frame constructor (41_frame_builder.md), and the placing of received bytes (42_transport_exchange.md R167). -/

namespace Sys2Proof.Machine

/-- The bytes of a frame in transmission order: `F[0]` first (20_memory.md R70). -/
def frameBytes (f : Frame) : List Byte :=
  [f.b0, f.b1, f.b2, f.b3, f.b4, f.b5, f.b6, f.b7, f.b8]

/-- `F[i]` for an offset `i` in 0 to 8, the only offsets there are (10_state.md R59). -/
def frameByte (f : Frame) (i : Fin 9) : Byte :=
  match i with
  | 0 => f.b0
  | 1 => f.b1
  | 2 => f.b2
  | 3 => f.b3
  | 4 => f.b4
  | 5 => f.b5
  | 6 => f.b6
  | 7 => f.b7
  | 8 => f.b8

/-- The integer sum of bytes 1 to 7, both inclusive, the `s` of 40_checksum.md R130. -/
def frameSum (f : Frame) : Nat :=
  f.b1.toNat + f.b2.toNat + f.b3.toNat + f.b4.toNat + f.b5.toNat + f.b6.toNat + f.b7.toNat

/-- The checksum of 40_checksum.md R130: `trunc_8(0xFF - (s mod 256) + 1)`. -/
def checksum (f : Frame) : Byte :=
  BitVec.ofNat 8 (0xFF - frameSum f % 256 + 1)

/-- `verify(F)` of 40_checksum.md R134. -/
def verify (f : Frame) : Bool :=
  checksum f == f.b8

/-- The command frame of 30_encoding.md R104 with its fresh checksum: BUILD's nine writes (41_frame_builder.md R140). -/
def commandFrame (cmd d0 d1 : Byte) : Frame :=
  let f : Frame := ⟨hdr, addr, cmd, d0, d1, 0x00, 0x00, 0x00, 0x00⟩
  { f with b8 := checksum f }

/-- `BUF[i] <- L[i]` for `i` in `0 .. k-1`: the first bytes of the frame are replaced by those received, the rest keep
their values, and bytes beyond nine are ignored (42_transport_exchange.md R167, 20_memory.md R76). -/
def placeReceived (f : Frame) (l : List Byte) : Frame where
  b0 := l.getD 0 f.b0
  b1 := l.getD 1 f.b1
  b2 := l.getD 2 f.b2
  b3 := l.getD 3 f.b3
  b4 := l.getD 4 f.b4
  b5 := l.getD 5 f.b5
  b6 := l.getD 6 f.b6
  b7 := l.getD 7 f.b7
  b8 := l.getD 8 f.b8

/-- How many of the received bytes are kept: `RCOUNT`, 0 to 9 (10_state.md R38, 20_memory.md R76). -/
def keptCount (l : List Byte) : Nat :=
  min l.length frameLen

/-- PPM of a response frame: `256 * F[2] + F[3]`, unsigned (43_response_validator.md R205, 20_memory.md R71). -/
def framePpm (f : Frame) : Half :=
  BitVec.ofNat 16 (256 * f.b2.toNat + f.b3.toNat)

/-- TEMP of a response frame: `sext_16(zext_9(F[4]) - 40)` (43_response_validator.md R205, R206). -/
def frameTemp (f : Frame) : Half :=
  (f.b4.zeroExtend 9 - tempOffset).signExtend 16

end Sys2Proof.Machine
end

