-- ==== Sys2Proof/Machine/State.lean ====
section
/-! DEFINITION. The state of the machine as plain data (10_state.md), its reset value (R60), and the reasons a step can
stop. -/

namespace Sys2Proof.Machine

/-- The FSM states of 10_state.md R32, in the order an operation meets them; the program-counter analogue (R31). -/
inductive Fsm where
  | idle
  | argchk
  | build
  | txWrite
  | txFlush
  | pollQ
  | pollSleep
  | availCheck
  | rxRead
  | validate
  | decode
  | cfFlush
  | cfPollQ
  | cfPollSleep
  | cfDrain
  | complete
  deriving DecidableEq, Repr

/-- A call the engine makes on a collaborator, with what it passes (20_memory.md R75). -/
inductive Call where
  /-- `T.write(b[0..8])` -/
  | write (bytes : List Byte)
  /-- `T.available()` -/
  | available
  /-- `T.readBytes(n)` -/
  | readBytes (n : Nat)
  /-- `T.flush()` -/
  | flush
  /-- `T.read()` -/
  | read
  /-- `SLEEP(delay)` -/
  | sleep (delay : Nat)
  deriving DecidableEq, Repr

/-- Why the model stops with a fault. -/
inductive Fault where
  /-- Raised by the reserved operation (OP_R 5, 6 or 7) in an FSM state of the exchange, validator or decoder, for which
  the spec gives no command byte and no argument bytes (41_frame_builder.md R141, R142: `cmd_of` and `args_of` are given
  for 0 to 4, and BUILD is entered only with those, R140). Safe: the model stops where the spec gives no effect. No run
  from reset reaches it (log 7). -/
  | reservedOpcodeInExchange
  deriving DecidableEq, Repr

/-- Why the model refuses a step. -/
inductive Refusal where
  /-- An instruction with no meaning yet, by its mnemonic. No arm raises it. Safe. -/
  | notModelled (mnemonic : String)
  /-- Raised by the step when the host sets a configuration while BUSY = 1: a host error with no defined result
  (70_reset_and_hazards.md R285, 93_implementation_defined.md U9). Safe (log 8). -/
  | configChangedWhileBusy
  /-- Raised by the step when the host sets a configuration with POLL_MAX = 0, which 00_scope.md R7 excludes. Safe
  (log 8). -/
  | pollMaxZero
  deriving DecidableEq, Repr

/-- The whole state of the machine: the engine's registers of 10_state.md, its configuration, and the model's own fields
for what is outside the engine. -/
structure State where
  /-- The FSM state register `state` (R31). -/
  fsm : Fsm
  /-- BUF, the nine-byte working buffer (R34). -/
  buf : Frame
  /-- OP_R, the latched operation code (R35). -/
  opR : BitVec 3
  /-- ARG_R, the latched argument (R35). -/
  argR : Half
  /-- WCOUNT (R36). -/
  wcount : Nat
  /-- ACOUNT (R37). -/
  acount : Nat
  /-- RCOUNT (R38). -/
  rcount : Nat
  /-- POLL_CNT (R39). -/
  pollCnt : Nat
  /-- DRAIN_LEFT (R40). -/
  drainLeft : Nat
  /-- ERR (R41). -/
  err : BitVec 4
  /-- BUSY (R42). -/
  busy : Bool
  /-- DONE (R43). -/
  done : Bool
  /-- STATUS (R44). -/
  status : BitVec 4
  /-- RES_VALID (R45). -/
  resValid : Bool
  /-- PPM (R46). -/
  ppm : Half
  /-- TEMP, two's complement (R47). -/
  temp : Half
  /-- RESULT, two's complement (R48). -/
  result : Word
  /-- CK_COMPUTED (R49). -/
  ckComputed : Byte
  /-- CK_RECEIVED (R49). -/
  ckReceived : Byte
  /-- The configuration, the control registers of R51 to R55. -/
  cfg : Config
  /-- MODEL'S OWN: a transport call was made that never returns; the engine stays in its step for good
  (70_reset_and_hazards.md R284, U8; log 4). -/
  hung : Bool
  /-- MODEL'S OWN: what the outside world supplies to the coming steps, oldest first (R50, 20_memory.md R75; log 5). -/
  inputs : List Input
  /-- MODEL'S OWN: the number of this step, which indexes the free inputs (log 5). -/
  tick : Nat
  /-- MODEL'S OWN: the calls made on the collaborators so far, newest first (20_memory.md R75; log 6). -/
  calls : List Call
  deriving DecidableEq, Repr

/-- The machine right after reset (R60). The spec gives BUF no value: nine zero bytes are a DESIGN CHOICE (log 1). The
configuration is not state for R60; `defaultConfig` is what the machine is taken with (logs 2 and 3). Nothing is listed
in the model's own fields (logs 4, 5, 6). -/
def State.reset : State where
  fsm := .idle
  buf := ⟨0, 0, 0, 0, 0, 0, 0, 0, 0⟩
  opR := 0
  argR := 0
  wcount := 0
  acount := 0
  rcount := 0
  pollCnt := 0
  drainLeft := 0
  err := 0
  busy := false
  done := false
  status := 0
  resValid := false
  ppm := 0
  temp := 0
  result := 0
  ckComputed := 0
  ckReceived := 0
  cfg := defaultConfig
  hung := false
  inputs := []
  tick := 0
  calls := []

end Sys2Proof.Machine
end

