-- ==== Sys2Proof/Machine/Flags.lean ====
section
/-! DEFINITION. Error codes, their groups and routing, and the RESULT encoding (60_exceptions.md R240, R241, R245, R247). -/

namespace Sys2Proof.Machine

/-- The failures of 60_exceptions.md R240, by name. -/
inductive Failure where
  | invalidArgument
  | shortWrite
  | noResponse
  | unexpectedAvailableCount
  | shortRead
  | badHeader
  | checksumMismatch
  | commandMismatch
  deriving DecidableEq, Repr

/-- The groups of 60_exceptions.md R241. -/
inductive FailureGroup where
  | argument
  | transport
  | validation
  deriving DecidableEq, Repr

/-- The code `OK` (60_exceptions.md R240). -/
def codeOk : BitVec 4 := 0

/-- The numeric code of a failure (60_exceptions.md R240). -/
def failureCode : Failure → BitVec 4
  | .invalidArgument => 1
  | .shortWrite => 2
  | .noResponse => 3
  | .unexpectedAvailableCount => 4
  | .shortRead => 5
  | .badHeader => 6
  | .checksumMismatch => 7
  | .commandMismatch => 8

/-- The group of a failure (60_exceptions.md R241). -/
def failureGroup : Failure → FailureGroup
  | .invalidArgument => .argument
  | .shortWrite => .transport
  | .noResponse => .transport
  | .unexpectedAvailableCount => .transport
  | .shortRead => .transport
  | .badHeader => .validation
  | .checksumMismatch => .validation
  | .commandMismatch => .validation

/-- Where control goes after a failure (60_exceptions.md R245, 42_transport_exchange.md R169). -/
def failureRoute (c : Config) (e : Failure) : Fsm :=
  match failureGroup e with
  | .argument => .complete
  | .transport => .cfFlush
  | .validation => if c.flushOnValidationFail then .cfFlush else .complete

/-- `result_of` of 60_exceptions.md R247: minus the code after a failure, the reading after a successful READ_CO2, 0
otherwise. -/
def resultOf (op : BitVec 3) (e : BitVec 4) (ppm : Half) : Word :=
  if e ≠ codeOk then -(e.zeroExtend 32)
  else if op = 0 then ppm.zeroExtend 32
  else 0

end Sys2Proof.Machine
end

