-- ==== Sys2Proof/Machine/Ops.lean ====
section
/-! DEFINITION. The shared operations: the step's input, the calls on the collaborators, taking a failure and returning
from it, accepting START, reset, the host's configuration move, and what the host can read. -/

namespace Sys2Proof.Machine

/-- What the outside world supplies to the next step: the oldest listed input, or a free one (log 5). -/
def State.input (s : State) : Input :=
  match s.inputs with
  | [] => Config.freeInput s.tick
  | x :: _ => x

/-- The end of every step: its input is used up. -/
def State.advance (s : State) : State :=
  { s with inputs := s.inputs.tail, tick := s.tick + 1 }

/-- `state <- S` (10_state.md R31). -/
def State.goto (s : State) (f : Fsm) : State :=
  { s with fsm := f }

/-- The engine issues a call (20_memory.md R75). -/
def State.issue (s : State) (c : Call) : State :=
  { s with calls := c :: s.calls }

/-- A call that never returns leaves the engine in its step for good (70_reset_and_hazards.md R284). -/
def State.hang (s : State) : State :=
  { s with hung := true }

/-- TAKING A FAILURE, the primitive `fail(E)` of 00_scope.md R10: `ERR <- E`, then the routing of 60_exceptions.md R245.
Nothing else is saved and no other register changes (R244, R245). -/
def State.fail (s : State) (e : Failure) : State :=
  { s with err := failureCode e, fsm := failureRoute s.cfg e }

/-- RETURNING TO THE HOST, the COMPLETE step (60_exceptions.md R246): STATUS takes ERR, RESULT its encoding (R247), BUSY
falls, DONE rises, the engine is IDLE again (R248). -/
def State.complete (s : State) (op : BitVec 3) : State :=
  { s with
    status := s.err
    result := resultOf op s.err s.ppm
    busy := false
    done := true
    fsm := .idle }

/-- START acceptance, the IDLE step (44_operations.md R220): OP and ARG are latched, ERR and the outputs are cleared, BUSY
rises, DONE falls, and ARGCHK is next. -/
def State.accept (s : State) (op : BitVec 3) (arg : Half) : State :=
  { s with
    opR := op
    argR := arg
    err := codeOk
    busy := true
    done := false
    status := 0
    result := 0
    resValid := false
    ppm := 0
    temp := 0
    ckComputed := 0
    ckReceived := 0
    fsm := .argchk }

/-- RST (70_reset_and_hazards.md R270): every engine register takes its reset value, the operation in progress is
abandoned, no call is made, and the configuration and everything outside the engine stay. -/
def State.assertReset (s : State) : State :=
  { State.reset with
    cfg := s.cfg
    hung := s.hung
    inputs := s.inputs
    tick := s.tick
    calls := s.calls }

/-- The host's configuration move before a step (10_state.md R51): none, or one that takes effect at the next START while
BUSY = 0 and is refused while BUSY = 1 (70_reset_and_hazards.md R285, U9) or outside 00_scope.md R7. -/
def State.configure (s : State) : Except Refusal State :=
  match s.input.config with
  | none => .ok s
  | some c =>
    if s.busy then .error .configChangedWhileBusy
    else if c.pollMax = 0 then .error .pollMaxZero
    else .ok { s with cfg := c }

/-- The outputs the host can read at any time (10_state.md R42 to R49, 60_exceptions.md R249). -/
structure Outputs where
  busy : Bool
  done : Bool
  status : BitVec 4
  resValid : Bool
  ppm : Half
  temp : Half
  result : Word
  ckComputed : Byte
  ckReceived : Byte
  deriving DecidableEq, Repr

/-- The outputs as they stand. -/
def State.outputs (s : State) : Outputs where
  busy := s.busy
  done := s.done
  status := s.status
  resValid := s.resValid
  ppm := s.ppm
  temp := s.temp
  result := s.result
  ckComputed := s.ckComputed
  ckReceived := s.ckReceived

/-- The result of the last operation, defined for the host only while DONE = 1 and BUSY = 0 (10_state.md R43,
70_reset_and_hazards.md R281). -/
def State.definedResult (s : State) : Option Outputs :=
  if s.done && !s.busy then some s.outputs else none

end Sys2Proof.Machine
end

