-- ==== Sys2Proof/Machine/Exchange.lean ====
section
/-! DEFINITION. The Frame Builder's steps and the Transport Exchange with its cache flush, one definition per FSM state
(41_frame_builder.md, 42_transport_exchange.md). -/

namespace Sys2Proof.Machine

/-- ARGCHK (41_frame_builder.md R146), given whether the operation's argument is legal. -/
def State.argchk (s : State) (legal : Bool) : State :=
  if legal then s.goto .build else s.fail .invalidArgument

/-- BUILD (41_frame_builder.md R140), given the command byte and the argument bytes. -/
def State.build (s : State) (cmd d0 d1 : Byte) : State :=
  { s with buf := commandFrame cmd d0 d1, fsm := .txWrite }

/-- TX_WRITE (42_transport_exchange.md R161). -/
def State.txWrite (s : State) : State :=
  let s1 := s.issue (.write (frameBytes s.buf))
  if s.input.returns then { s1 with wcount := s.input.written, fsm := .txFlush } else s1.hang

/-- TX_FLUSH and the short-write test (42_transport_exchange.md R162). -/
def State.txFlush (s : State) : State :=
  let s1 := s.issue .flush
  if s.input.returns then
    if s.wcount < frameLen then s1.fail .shortWrite else { s1 with pollCnt := 0, fsm := .pollQ }
  else s1.hang

/-- One query of a poll-wait loop: ACOUNT takes the answer and POLL_CNT counts it (42_transport_exchange.md R164, R171). -/
def State.query (s : State) : State :=
  { s.issue .available with acount := s.input.available, pollCnt := s.pollCnt + 1 }

/-- POLL_Q (42_transport_exchange.md R164). -/
def State.pollQ (s : State) : State :=
  let s1 := s.query
  if 0 < s1.acount then s1.goto .availCheck
  else if s1.pollCnt = s1.cfg.pollMax then s1.fail .noResponse
  else s1.goto .pollSleep

/-- A sleep between two queries, then state `f` (42_transport_exchange.md R165, R172). -/
def State.sleepThen (s : State) (f : Fsm) : State :=
  (s.issue (.sleep s.cfg.pollDelay)).goto f

/-- AVAIL_CHECK, the exact-count test (42_transport_exchange.md R166). -/
def State.availCheck (s : State) : State :=
  if s.acount = frameLen then s.goto .rxRead else s.fail .unexpectedAvailableCount

/-- RX_READ (42_transport_exchange.md R167); `op` is OP_R: only READ_CO2 goes on to VALIDATE. -/
def State.rxRead (s : State) (op : BitVec 3) : State :=
  let s1 := s.issue (.readBytes frameLen)
  if s.input.returns then
    let s2 := { s1 with rcount := keptCount s.input.received, buf := placeReceived s.buf s.input.received }
    if s2.rcount < frameLen then s2.fail .shortRead
    else if op = 0 then s2.goto .validate
    else s2.goto .complete
  else s1.hang

/-- CF_FLUSH (42_transport_exchange.md R170). -/
def State.cfFlush (s : State) : State :=
  let s1 := s.issue .flush
  if s.input.returns then { s1 with pollCnt := 0, fsm := .cfPollQ } else s1.hang

/-- CF_POLL_Q, one query of the settle wait (42_transport_exchange.md R171). -/
def State.cfPollQ (s : State) : State :=
  let s1 := s.query
  if 0 < s1.acount ∨ s1.pollCnt = s1.cfg.pollMax then { s1 with drainLeft := s1.acount, fsm := .cfDrain }
  else s1.goto .cfPollSleep

/-- CF_DRAIN (42_transport_exchange.md R173): at most one `T.read()`, its byte discarded. -/
def State.cfDrain (s : State) : State :=
  if s.drainLeft = 0 then s.goto .complete
  else
    let s1 := s.issue .read
    if s.input.returns then
      match s.input.drained with
      | none => s1.goto .complete
      | some _ => { s1 with drainLeft := s1.drainLeft - 1 }
    else s1.hang

end Sys2Proof.Machine
end

