-- ==== Sys2Proof/Machine/Operands.lean ====
section
/-! DEFINITION. The operand forms: the split of a 16-bit argument into two frame bytes, the `enabled` bit, the argument
checks of ARGCHK, and the record of what an operation's steps take from its operands (41_frame_builder.md R141, R142, R146,
R147, R148). -/

namespace Sys2Proof.Machine

/-- `hi8(x) = x[15:8]` (00_scope.md R9). -/
def hi8 (x : Half) : Byte :=
  x.extractLsb' 8 8

/-- `lo8(x) = x[7:0]` (00_scope.md R9). -/
def lo8 (x : Half) : Byte :=
  x.extractLsb' 0 8

/-- `enabled`, bit 0 of SET_ABC's ARG (30_encoding.md R102, D26). -/
def abcEnabled (arg : Half) : Bool :=
  arg.getLsbD 0

/-- The D0 byte of SET_ABC: 0xA0 if enabled, else 0x00 (41_frame_builder.md R142). -/
def abcD0 (arg : Half) : Byte :=
  if abcEnabled arg then abcOn else 0x00

/-- CAL_SPAN's argument check: 1000 to 5000, both included (41_frame_builder.md R146, R147). -/
def spanLegal (level : Half) : Bool :=
  decide (spanMin ≤ level.toNat ∧ level.toNat ≤ spanMax)

/-- SET_RANGE's argument check: exactly 2000 or 5000 (41_frame_builder.md R146, R148). -/
def rangeLegal (range : Half) : Bool :=
  decide (range.toNat ∈ rangeSet)

/-- What the steps of an operation take from the operation and its argument: the two latched values, whether ARGCHK
passes (R146), the command byte `cmd_of` (R141) and the argument bytes `args_of` (R142). -/
structure Operation where
  /-- The value OP_R takes. -/
  op : BitVec 3
  /-- The value ARG_R takes. -/
  arg : Half
  /-- Whether ARGCHK passes. -/
  legal : Bool
  /-- The command byte, `cmd_of`. -/
  cmd : Byte
  /-- The argument byte D0. -/
  d0 : Byte
  /-- The argument byte D1. -/
  d1 : Byte
  deriving DecidableEq, Repr

end Sys2Proof.Machine
end

