-- ==== Sys2Proof/Machine/Validator.lean ====
section
/-! DEFINITION. The Response Validator and decoder (43_response_validator.md). -/

namespace Sys2Proof.Machine

/-- VALIDATE (43_response_validator.md R200): header, checksum, echo, in this order; the first that fails decides.
`cmd` is the expected command byte, `cmd_of(OP_R)` (R203). -/
def State.validate (s : State) (cmd : Byte) : State :=
  if s.buf.b0 ≠ hdr then s.fail .badHeader
  else
    let s1 := { s with ckComputed := checksum s.buf, ckReceived := s.buf.b8 }
    if s1.ckComputed ≠ s1.ckReceived then s1.fail .checksumMismatch
    else if s.cfg.echoCheck = true ∧ s.buf.b1 ≠ cmd then s1.fail .commandMismatch
    else s1.goto .decode

/-- DECODE (43_response_validator.md R205, R206). -/
def State.decodeReading (s : State) : State :=
  { s with ppm := framePpm s.buf, temp := frameTemp s.buf, resValid := true, fsm := .complete }

end Sys2Proof.Machine
end

