-- ==== Sys2Proof/Machine/Operation.lean ====
section
/-! DEFINITION. One engine step of an operation (00_scope.md R5, 44_operations.md R226): START acceptance when the engine is
IDLE, else the step its FSM state names. -/

namespace Sys2Proof.Machine

/-- The step the FSM state names (10_state.md R32), with what the operation `d` supplies to it. -/
def State.transition (s : State) (d : Operation) : State :=
  match s.fsm with
  | .idle => s.accept d.op d.arg
  | .argchk => s.argchk d.legal
  | .build => s.build d.cmd d.d0 d.d1
  | .txWrite => s.txWrite
  | .txFlush => s.txFlush
  | .pollQ => s.pollQ
  | .pollSleep => s.sleepThen .pollQ
  | .availCheck => s.availCheck
  | .rxRead => s.rxRead d.op
  | .validate => s.validate d.cmd
  | .decode => s.decodeReading
  | .cfFlush => s.cfFlush
  | .cfPollQ => s.cfPollQ
  | .cfPollSleep => s.sleepThen .cfPollQ
  | .cfDrain => s.cfDrain
  | .complete => s.complete d.op

/-- One engine step of the operation `d`. -/
def runOperation (d : Operation) (s : State) : Host.Outcome State Fault Refusal :=
  .next (s.transition d).advance

/-- One engine step of an operation whose OP is reserved, 5 to 7 (30_encoding.md R110): it is accepted like any other
(44_operations.md R220), fails ARGCHK with InvalidArgument (41_frame_builder.md R146) and completes. The spec gives it no
step in any other FSM state (R140, R141, R142). -/
def runReserved (op : BitVec 3) (arg : Half) (s : State) : Host.Outcome State Fault Refusal :=
  match s.fsm with
  | .idle => .next (s.accept op arg).advance
  | .argchk => .next (s.argchk false).advance
  | .complete => .next (s.complete op).advance
  | _ => .fault .reservedOpcodeInExchange

end Sys2Proof.Machine
end

