-- ==== Sys2Proof/Machine/Measure.lean ====
section
/-! DEFINITION. The measuring operation: READ_CO2 (44_operations.md R221). -/

namespace Sys2Proof.Machine

/-- READ_CO2 (44_operations.md R221): no argument check, command byte 0x86, argument bytes zero; the only operation that
runs VALIDATE and DECODE. -/
def execReadCo2 (arg : Half) (s : State) : Host.Outcome State Fault Refusal :=
  runOperation { op := 0, arg := arg, legal := true, cmd := cmdRead, d0 := 0x00, d1 := 0x00 } s

end Sys2Proof.Machine
end

