-- ==== Sys2Proof/Machine/Settings.lean ====
section
/-! DEFINITION. The four setting operations (44_operations.md R222, R223, R224, R225). None validates its response
(30_encoding.md R109). -/

namespace Sys2Proof.Machine

/-- CAL_ZERO (44_operations.md R222). -/
def execCalZero (arg : Half) (s : State) : Host.Outcome State Fault Refusal :=
  runOperation { op := 1, arg := arg, legal := true, cmd := s.cfg.cmdZero, d0 := 0x00, d1 := 0x00 } s

/-- CAL_SPAN level (44_operations.md R223). -/
def execCalSpan (level : Half) (s : State) : Host.Outcome State Fault Refusal :=
  runOperation
    { op := 2, arg := level, legal := spanLegal level, cmd := s.cfg.cmdSpan, d0 := hi8 level, d1 := lo8 level } s

/-- SET_ABC (44_operations.md R224): bit 0 of the argument turns auto-calibration on or off. -/
def execSetAbc (arg : Half) (s : State) : Host.Outcome State Fault Refusal :=
  runOperation { op := 3, arg := arg, legal := true, cmd := s.cfg.cmdAbc, d0 := abcD0 arg, d1 := 0x00 } s

/-- SET_RANGE range (44_operations.md R225). -/
def execSetRange (range : Half) (s : State) : Host.Outcome State Fault Refusal :=
  runOperation
    { op := 4, arg := range, legal := rangeLegal range, cmd := s.cfg.cmdRange, d0 := hi8 range, d1 := lo8 range } s

end Sys2Proof.Machine
end

