-- ==== Sys2Proof/Syntax.lean ====
section
/-! DEFINITION. The engine's instructions, the five host operations (44_operations.md), and the lines of the spec's
assembler (30_encoding.md R113). -/

namespace Sys2Proof

/-- A host operation, one constructor for each row of spec/opcode_table.json. Each carries the 16-bit ARG of its command
word, because START latches ARG whatever the operation uses of it (44_operations.md R220). The bits RSVD are carried by
none (30_encoding.md R103). -/
inductive Instr where
  /-- READ_CO2, OP 0; ARG is ignored but latched (44_operations.md R221). -/
  | readCo2 (arg : Half)
  /-- CAL_ZERO, OP 1; ARG is ignored but latched (44_operations.md R222). -/
  | calZero (arg : Half)
  /-- CAL_SPAN level, OP 2 (44_operations.md R223). -/
  | calSpan (level : Half)
  /-- SET_ABC, OP 3; bit 0 of ARG is `enabled`, bits 15:1 are ignored but latched (44_operations.md R224). -/
  | setAbc (arg : Half)
  /-- SET_RANGE range, OP 4 (44_operations.md R225). -/
  | setRange (range : Half)
  deriving DecidableEq, Repr

/-- A line of the spec's assembler (30_encoding.md R113). The operand is the number written, before it is known to fit
the 16 bits of ARG. -/
inductive AsmLine where
  /-- `READ_CO2` -/
  | readCo2
  /-- `CAL_ZERO` -/
  | calZero
  /-- `CAL_SPAN level` -/
  | calSpan (level : Nat)
  /-- `SET_ABC n` -/
  | setAbc (n : Nat)
  /-- `SET_ABC ON`, a spelling of `SET_ABC 1` -/
  | setAbcOn
  /-- `SET_ABC OFF`, a spelling of `SET_ABC 0` -/
  | setAbcOff
  /-- `SET_RANGE range` -/
  | setRange (range : Nat)
  deriving DecidableEq, Repr

end Sys2Proof
end

