-- ==== Sys2Proof/Machine/Dispatch.lean ====
section
/-! DEFINITION. One engine step of the operation an instruction names (00_scope.md R5, 44_operations.md R226): START
acceptance of it when the engine is IDLE, else the step its FSM state names. -/

namespace Sys2Proof.Machine

def exec (i : Instr) (s : State) : Host.Outcome State Fault Refusal :=
  match i with
  | .readCo2 arg => Sys2Proof.Machine.execReadCo2 arg s
  | .calZero arg => Sys2Proof.Machine.execCalZero arg s
  | .calSpan level => Sys2Proof.Machine.execCalSpan level s
  | .setAbc arg => Sys2Proof.Machine.execSetAbc arg s
  | .setRange range => Sys2Proof.Machine.execSetRange range s

end Sys2Proof.Machine
end

