-- ==== Sys2Proof/WellFormed.lean ====
section
/-! DEFINITION. The checks the spec states on instructions, assembler lines and configurations. None of them stops an
instruction: an ill-formed argument completes with InvalidArgument (41_frame_builder.md R146). -/

namespace Sys2Proof

/-- The legal argument values of 30_encoding.md R102: any for READ_CO2, CAL_ZERO and SET_ABC, 1000 to 5000 inclusive for
CAL_SPAN, exactly 2000 or 5000 for SET_RANGE. Every `Instr` is encodable, legal or not: the operand's type is the width of
its field. -/
def Instr.wellFormed : Instr → Bool
  | .readCo2 _ => true
  | .calZero _ => true
  | .calSpan level => decide (1000 ≤ level.toNat ∧ level.toNat ≤ 5000)
  | .setAbc _ => true
  | .setRange range => decide (range.toNat = 2000 ∨ range.toNat = 5000)

/-- An assembler line whose operand fits ARG: an unsigned 16-bit value (30_encoding.md R102, D26). -/
def AsmLine.wellFormed : AsmLine → Bool
  | .readCo2 => true
  | .calZero => true
  | .calSpan level => decide (level < 65536)
  | .setAbc n => decide (n < 65536)
  | .setAbcOn => true
  | .setAbcOff => true
  | .setRange range => decide (range < 65536)

/-- The five command bytes of a configuration, READ_CO2's constant first (30_encoding.md R107). -/
def Config.commandBytes (c : Config) : List Byte :=
  [0x86, c.cmdZero, c.cmdSpan, c.cmdAbc, c.cmdRange]

/-- The constraints of 00_scope.md R7: POLL_MAX at least 1, and the five command bytes pairwise distinct. -/
def Config.wellFormed (c : Config) : Bool :=
  decide (1 ≤ c.pollMax) && decide c.commandBytes.Nodup

end Sys2Proof
end

