-- ==== Sys2Proof/Decode.lean ====
section
/-! DEFINITION. Decoding and encoding: the host command word (30_encoding.md R100, R101, R102, R103, R114), a command frame
seen on the wire (R104, R105, R107, R115), and the assembler's lines (R113). -/

namespace Sys2Proof

/-- Why a bit pattern is no operation: the decoder rejects by name. -/
inductive DecodeReject where
  /-- The host word's OP is 5, 6 or 7 (30_encoding.md R110, R114). The engine still runs such a word: it completes with
  InvalidArgument (41_frame_builder.md R146). -/
  | reservedOp (op : BitVec 3)
  /-- The nine bytes are no well-formed command frame (30_encoding.md R115). -/
  | notACommandFrame
  /-- The frame is well formed but its CMD byte is none of the five (30_encoding.md R115). -/
  | unknownCommand (cmd : Byte)
  /-- The frame's argument bytes are ones this engine never sends for that command (30_encoding.md R115). -/
  | neverSent
  deriving DecidableEq, Repr

/-- `OP`, bits 18:16 of the host command word (30_encoding.md R100). -/
def wordOp (w : Word) : BitVec 3 :=
  w.extractLsb' 16 3

/-- `ARG`, bits 15:0 of the host command word (30_encoding.md R100). -/
def wordArg (w : Word) : Half :=
  w.extractLsb' 0 16

/-- The operation an OP and an ARG name (30_encoding.md R101, R114). It is also how the latched pair OP_R, ARG_R names the
operation in progress (10_state.md R35). -/
def decodeFields (op : BitVec 3) (arg : Half) : Except DecodeReject Instr :=
  match op.toNat with
  | 0 => .ok (.readCo2 arg)
  | 1 => .ok (.calZero arg)
  | 2 => .ok (.calSpan arg)
  | 3 => .ok (.setAbc arg)
  | 4 => .ok (.setRange arg)
  | _ => .error (.reservedOp op)

/-- Decoding the host command word, total over all 32-bit values (30_encoding.md R114). RSVD is not looked at (R103). -/
def decode (w : Word) : Except DecodeReject Instr :=
  decodeFields (wordOp w) (wordArg w)

/-- The OP code of an operation (30_encoding.md R101). -/
def Instr.op : Instr → BitVec 3
  | .readCo2 _ => 0
  | .calZero _ => 1
  | .calSpan _ => 2
  | .setAbc _ => 3
  | .setRange _ => 4

/-- The ARG of an operation (30_encoding.md R102). -/
def Instr.arg : Instr → Half
  | .readCo2 a => a
  | .calZero a => a
  | .calSpan a => a
  | .setAbc a => a
  | .setRange a => a

/-- The host command word of an operation, OP at bits 18:16, ARG at bits 15:0, RSVD zero (30_encoding.md
R100, R113). -/
def encode (i : Instr) : Word :=
  (i.op.zeroExtend 32 <<< 16) ||| i.arg.zeroExtend 32

/-- The operation the decoder reads from a table row's bits: the host command word is ONE 32-bit word, bit 0 its least
significant, and a row of fewer bits has zeros above (30_encoding.md R100, R112). Nothing longer than 32 bits is a word. -/
def decodeTableWord (nbits w : Nat) : Option Instr :=
  if nbits ≤ 32 then
    match decode (BitVec.ofNat 32 (w % 2 ^ nbits)) with
    | .ok i => some i
    | .error _ => none
  else none

/-- A well-formed command frame (30_encoding.md R115): header, address, three zero bytes, right checksum. -/
def isCommandFrame (f : Frame) : Bool :=
  f.b0 == Machine.hdr && f.b1 == Machine.addr && f.b5 == 0x00 && f.b6 == 0x00 && f.b7 == 0x00 && Machine.verify f

/-- Decoding a command frame (30_encoding.md R115), for a monitor on the wire: its operation is the row of R107 whose CMD
equals `F[2]`. The argument is `256 * F[3] + F[4]` for CAL_SPAN and SET_RANGE; 1 or 0 for SET_ABC on and off; 0 for the
operations that have none. Argument bytes R105 does not give are rejected by name. -/
def decodeFrame (c : Config) (f : Frame) : Except DecodeReject Instr :=
  if ¬ isCommandFrame f then .error .notACommandFrame
  else if f.b2 = Machine.cmdRead then
    if f.b3 = 0x00 ∧ f.b4 = 0x00 then .ok (.readCo2 0) else .error .neverSent
  else if f.b2 = c.cmdZero then
    if f.b3 = 0x00 ∧ f.b4 = 0x00 then .ok (.calZero 0) else .error .neverSent
  else if f.b2 = c.cmdSpan then .ok (.calSpan (BitVec.ofNat 16 (256 * f.b3.toNat + f.b4.toNat)))
  else if f.b2 = c.cmdAbc then
    if f.b3 = Machine.abcOn ∧ f.b4 = 0x00 then .ok (.setAbc 1)
    else if f.b3 = 0x00 ∧ f.b4 = 0x00 then .ok (.setAbc 0)
    else .error .neverSent
  else if f.b2 = c.cmdRange then .ok (.setRange (BitVec.ofNat 16 (256 * f.b3.toNat + f.b4.toNat)))
  else .error (.unknownCommand f.b2)

/-- The command frame of an operation, from the tables of 30_encoding.md R105 and R107 and the form of R104; its checksum
byte is 40_checksum.md R130's. -/
def encodeFrame (c : Config) (i : Instr) : Frame :=
  match i with
  | .readCo2 _ => Machine.commandFrame Machine.cmdRead 0x00 0x00
  | .calZero _ => Machine.commandFrame c.cmdZero 0x00 0x00
  | .calSpan level => Machine.commandFrame c.cmdSpan (Machine.hi8 level) (Machine.lo8 level)
  | .setAbc arg => Machine.commandFrame c.cmdAbc (Machine.abcD0 arg) 0x00
  | .setRange range => Machine.commandFrame c.cmdRange (Machine.hi8 range) (Machine.lo8 range)

/-- The operation with its argument as a command frame shows it (30_encoding.md R115): 0 where the operation has none, 1 or
0 for SET_ABC. -/
def Instr.asSeenOnWire : Instr → Instr
  | .readCo2 _ => .readCo2 0
  | .calZero _ => .calZero 0
  | .calSpan level => .calSpan level
  | .setAbc arg => .setAbc (if Machine.abcEnabled arg then 1 else 0)
  | .setRange range => .setRange range

/-- The operation a well-formed assembler line writes (30_encoding.md R113); none where its operand does not fit ARG. -/
def AsmLine.instr (l : AsmLine) : Option Instr :=
  if l.wellFormed then
    match l with
    | .readCo2 => some (.readCo2 0)
    | .calZero => some (.calZero 0)
    | .calSpan level => some (.calSpan (BitVec.ofNat 16 level))
    | .setAbc n => some (.setAbc (BitVec.ofNat 16 n))
    | .setAbcOn => some (.setAbc 1)
    | .setAbcOff => some (.setAbc 0)
    | .setRange range => some (.setRange (BitVec.ofNat 16 range))
  else none

/-- The value of a digit character in a base up to 16 (30_encoding.md R113: decimal or `0x` hexadecimal). -/
def digitValue (base : Nat) (ch : Char) : Option Nat :=
  let n := ch.toNat
  let v :=
    if 48 ≤ n ∧ n ≤ 57 then n - 48
    else if 65 ≤ n ∧ n ≤ 70 then n - 55
    else if 97 ≤ n ∧ n ≤ 102 then n - 87
    else base
  if v < base then some v else none

/-- The number a list of digits writes, continuing from `acc`. -/
def digitsValue (base acc : Nat) : List Char → Option Nat
  | [] => some acc
  | ch :: rest =>
    match digitValue base ch with
    | some v => digitsValue base (acc * base + v) rest
    | none => none

/-- An operand: one or more decimal digits, or `0x` and one or more hexadecimal digits (30_encoding.md R113). -/
def operandValue : List Char → Option Nat
  | [] => none
  | ['0', 'x'] => none
  | '0' :: 'x' :: ds => digitsValue 16 0 ds
  | ds => digitsValue 10 0 ds

/-- The mnemonic before the first space, and the operand after it if there is a space (30_encoding.md R113). -/
def splitLine : List Char → List Char × Option (List Char)
  | [] => ([], none)
  | ' ' :: rest => ([], some rest)
  | ch :: rest => (ch :: (splitLine rest).1, (splitLine rest).2)

/-- Reading one line of the assembler, `MNEMONIC [operand]` (30_encoding.md R113). -/
def parseLine (line : String) : Option AsmLine :=
  match splitLine line.toList with
  | (m, none) =>
    if m = "READ_CO2".toList then some .readCo2
    else if m = "CAL_ZERO".toList then some .calZero
    else none
  | (m, some o) =>
    if m = "CAL_SPAN".toList then (operandValue o).map .calSpan
    else if m = "SET_ABC".toList then
      if o = "ON".toList then some .setAbcOn
      else if o = "OFF".toList then some .setAbcOff
      else (operandValue o).map .setAbc
    else if m = "SET_RANGE".toList then (operandValue o).map .setRange
    else none

/-- The host command word a line of the assembler stands for (30_encoding.md R113). -/
def assemble (line : String) : Option Word :=
  ((parseLine line).bind AsmLine.instr).map encode

end Sys2Proof
end

