-- ==== Sys2Proof/Machine/HostPort.lean ====
section
/-! DEFINITION. The host port: what the next step does, given the host's pins (10_state.md R50), and how a test puts a host
command word on them. -/

namespace Sys2Proof.Machine

/-- What a step turns out to be. -/
inductive Turn where
  /-- The engine makes no step of an operation: it waits in IDLE, is reset, or hangs in a call. -/
  | settled (s : State)
  /-- The host's move has no defined result. -/
  | refused (r : Refusal)
  /-- An engine step of the operation `i`. -/
  | run (i : Instr) (s : State)
  /-- An engine step of an operation with a reserved OP. -/
  | reserved (op : BitVec 3) (arg : Half) (s : State)
  deriving DecidableEq, Repr

/-- An engine step of the operation a pair of OP and ARG names (30_encoding.md R114). -/
def turnOf (op : BitVec 3) (arg : Half) (s : State) : Turn :=
  match decodeFields op arg with
  | .ok i => .run i s
  | .error _ => .reserved op arg s

/-- What the next step does once the configuration is settled. A call that never returned keeps the engine where it is
(70_reset_and_hazards.md R284; a reset never splits a call, R270). RST comes next (R270). In IDLE the engine waits for START
and takes the operation from CMD_WORD (44_operations.md R220). DESIGN CHOICE (log 19): where RST and START are 1 in the same
input, RST takes the whole step and that START is dropped; the spec gives no priority between them (R220, R270). In every other FSM state START is ignored and the operation
in progress is the one OP_R and ARG_R hold (10_state.md R35). -/
def State.pinTurn (s : State) : Turn :=
  if s.hung then .settled s.advance
  else if s.input.rst then .settled s.assertReset.advance
  else if s.fsm = .idle then
    if s.input.start then turnOf (wordOp s.input.cmdWord) (wordArg s.input.cmdWord) s else .settled s.advance
  else turnOf s.opR s.argR s

/-- What the next step does: the host's configuration move first (10_state.md R51), then the pins. -/
def State.turn (s : State) : Turn :=
  match s.configure with
  | .error r => .refused r
  | .ok s1 => s1.pinTurn

/-- The pins of a step in which the host asserts START with the command word `w` (10_state.md R50) and nothing else. The
step it starts makes no call, so its draws are not read (44_operations.md R220). -/
def startInput (w : Word) : Input where
  rst := false
  start := true
  cmdWord := w
  config := none
  returns := true
  written := 0
  available := 0
  received := []
  drained := none

/-- The command word of a table row's bits: one 32-bit word, zeros above `nbits` (30_encoding.md R100, R112). -/
def tableWord (nbits w : Nat) : Word :=
  BitVec.ofNat 32 (w % 2 ^ nbits)

/-- The engine waiting in IDLE with the command word `w` started by the next step (10_state.md R50, 44_operations.md R220). -/
def State.withStart (s : State) (w : Word) : State :=
  { s with fsm := .idle, hung := false, inputs := startInput w :: s.inputs }

end Sys2Proof.Machine
end

