-- ==== Sys2Proof/Machine/Step.lean ====
section
/-! DEFINITION. One step of the machine (00_scope.md R5). -/

namespace Sys2Proof.Machine

/-- One step: the engine step of the operation being started or in progress, or what the pins settle without one. -/
def step (s : State) : Host.Outcome State Fault Refusal :=
  match s.turn with
  | .settled s1 => .next s1
  | .refused r => .refused r
  | .run i s1 => exec i s1
  | .reserved op arg s1 => runReserved op arg s1

/-- `s` with the command word of a table row's bits on the host's pins, so that the next step starts it. -/
def State.withFetchWord (s : State) (nbits w : Nat) : State :=
  s.withStart (tableWord nbits w)

end Sys2Proof.Machine
end

