-- ==== Sys2Proof/Machine/Reference.lean ====
section
/-! DEFINITION. The call a step makes, as a function of the state, and the reference transport of 20_memory.md R86 beside
the machine. The reference transport is for tests and simulation; it constrains nothing in the engine (R86, D30). -/

namespace Sys2Proof.Machine

/-- The call the engine step named by the FSM state makes, if it makes one (10_state.md R32, 20_memory.md R75,
42_transport_exchange.md R178). CF_DRAIN makes none once DRAIN_LEFT is 0 (R173). -/
def State.nextCall (s : State) : Option Call :=
  match s.fsm with
  | .idle => none
  | .argchk => none
  | .build => none
  | .txWrite => some (.write (frameBytes s.buf))
  | .txFlush => some .flush
  | .pollQ => some .available
  | .pollSleep => some (.sleep s.cfg.pollDelay)
  | .availCheck => none
  | .rxRead => some (.readBytes frameLen)
  | .validate => none
  | .decode => none
  | .cfFlush => some .flush
  | .cfPollQ => some .available
  | .cfPollSleep => some (.sleep s.cfg.pollDelay)
  | .cfDrain => if s.drainLeft = 0 then none else some .read
  | .complete => none

/-- The sensor script of 20_memory.md R86: the response to the newest of the commands written so far, newest first, as the
number of queries of `T.available()` after which it appears, 0 meaning at once, and its bytes; or no response. -/
abbrev SensorScript := List (List Byte) → Option (Nat × List Byte)

/-- The reference transport of 20_memory.md R86, beside a sensor script. -/
structure RefTransport where
  /-- `Q`, the first byte to be delivered first. -/
  queue : List Byte
  /-- The commands handed to the script so far, newest first: each is the list of bytes of one `T.write`. -/
  commands : List (List Byte)
  /-- Responses to past writes that have not appeared yet, with the queries still to come before each. -/
  pending : List (Nat × List Byte)
  deriving DecidableEq, Repr

/-- `T.write(b)`: the bytes are handed to the script, which may answer at once, after some queries, or not at all. -/
def RefTransport.write (t : RefTransport) (script : SensorScript) (b : List Byte) : RefTransport :=
  let t1 := { t with commands := b :: t.commands }
  match script t1.commands with
  | none => t1
  | some (0, r) => { t1 with queue := t1.queue ++ r }
  | some (n + 1, r) => { t1 with pending := t1.pending ++ [(n + 1, r)] }

/-- After a query: the responses whose last query it was appear behind what is queued. -/
def RefTransport.afterQuery (t : RefTransport) : RefTransport :=
  { t with
    queue := t.queue ++ (t.pending.filter (fun p => decide (p.1 ≤ 1))).flatMap (fun p => p.2)
    pending := (t.pending.filter (fun p => decide (1 < p.1))).map (fun p => (p.1 - 1, p.2)) }

/-- The reference transport's answer to a call, put into a step's input, and the transport after it (20_memory.md R86). -/
def RefTransport.answer (t : RefTransport) (script : SensorScript) (c : Call) (x : Input) : Input × RefTransport :=
  match c with
  | .write b => ({ x with returns := true, written := 9 }, t.write script b)
  | .available => ({ x with available := t.queue.length }, t.afterQuery)
  | .readBytes n => ({ x with returns := true, received := t.queue.take n }, { t with queue := t.queue.drop n })
  | .flush => ({ x with returns := true }, t)
  | .read => ({ x with returns := true, drained := t.queue.head? }, { t with queue := t.queue.tail })
  | .sleep _ => (x, t)

/-- The machine with the reference transport beside it. -/
structure Bench where
  machine : State
  transport : RefTransport
  deriving DecidableEq, Repr

/-- One step of the machine in which the host's pins are those of `pins` and the reference transport answers the call the
step makes, if it makes one: a reset makes none, nor does an engine that hangs in a call (70_reset_and_hazards.md R270,
R284). -/
def Bench.step (b : Bench) (script : SensorScript) (pins : Input) : Host.Outcome Bench Fault Refusal :=
  let call := if pins.rst || b.machine.hung then none else b.machine.nextCall
  let answered : Input × RefTransport :=
    match call with
    | none => (pins, b.transport)
    | some c => b.transport.answer script c pins
  match Machine.step { b.machine with inputs := [answered.1] } with
  | .next s => .next { machine := s, transport := answered.2 }
  | .fault r => .fault r
  | .refused r => .refused r

/-- A run of steps, one for each element of a list of pins, ending at the first fault or refusal. -/
def Bench.run (b : Bench) (script : SensorScript) : List Input → Host.Outcome Bench Fault Refusal
  | [] => .next b
  | x :: xs =>
    match b.step script x with
    | .next b1 => b1.run script xs
    | .fault r => .fault r
    | .refused r => .refused r

end Sys2Proof.Machine
end

