-- ==== Sys2Proof/Safety.lean ====
section
/-! DEFINITION. The terms statements use: inputs without a disturbance, runs, invariants, what is live in each FSM state, and
the bound on an operation's steps. -/

namespace Sys2Proof.Machine

/-- An input in which the host asserts no RST and sets no configuration, and a blocking call returns (10_state.md R50, R51,
70_reset_and_hazards.md R284). START and CMD_WORD are any: outside IDLE they are ignored (44_operations.md R220). -/
def quiet (x : Input) : Prop :=
  x.rst = false ∧ x.config = none ∧ x.returns = true

/-- An input that starts the host word `w`: START = 1, no RST, no configuration (10_state.md R50). -/
def starts (x : Input) (w : Word) : Prop :=
  x.rst = false ∧ x.config = none ∧ x.start = true ∧ x.cmdWord = w

/-- What every step does outside the engine's registers: it uses up its input, and the calls it made, newest first, stand
before those made earlier (20_memory.md R75). Every register is as before. -/
def State.after (s : State) (made : List Call) : State :=
  { s with inputs := s.inputs.tail, tick := s.tick + 1, calls := made ++ s.calls }

/-- The engine waits for START: IDLE, and in no call that never returned. -/
def State.waiting (s : State) : Prop :=
  s.fsm = .idle ∧ s.hung = false

/-- `k` steps of the machine (Host.Core.run). -/
def State.run (k : Nat) (s : State) : Host.Outcome State Fault Refusal :=
  Sys2Proof.core.run k s

/-- The states in which the first `n` steps are taken, from `s` on; it ends where a step answers no next state. -/
def State.visited : Nat → State → List State
  | 0, _ => []
  | n + 1, s =>
    s :: match step s with
      | .next t => State.visited n t
      | .fault _ => []
      | .refused _ => []

/-- The calls of a poll-wait loop of `q` queries, newest first: a sleep between two queries and none after the last
(42_transport_exchange.md R164, R168). -/
def pollCalls : Nat → Nat → List Call
  | 0, _ => []
  | 1, _ => [.available]
  | q + 2, d => .available :: .sleep d :: pollCalls (q + 1) d

/-- The frame with bit `j` of the byte at offset `i` flipped (40_checksum.md R135). -/
def flipBit (f : Frame) (i : Fin 9) (j : Nat) : Frame :=
  let m : Byte := BitVec.twoPow 8 j
  match i with
  | 0 => { f with b0 := f.b0 ^^^ m }
  | 1 => { f with b1 := f.b1 ^^^ m }
  | 2 => { f with b2 := f.b2 ^^^ m }
  | 3 => { f with b3 := f.b3 ^^^ m }
  | 4 => { f with b4 := f.b4 ^^^ m }
  | 5 => { f with b5 := f.b5 ^^^ m }
  | 6 => { f with b6 := f.b6 ^^^ m }
  | 7 => { f with b7 := f.b7 ^^^ m }
  | 8 => { f with b8 := f.b8 ^^^ m }

/-- The FSM states in which the engine makes a call that may block for good (70_reset_and_hazards.md R284). -/
def Fsm.mayHang : Fsm → Bool
  | .txWrite | .txFlush | .rxRead | .cfFlush | .cfDrain => true
  | .idle | .argchk | .build | .pollQ | .pollSleep | .availCheck | .validate | .decode | .cfPollQ | .cfPollSleep
  | .complete => false

/-- The states of the two poll-wait loops (42_transport_exchange.md R164, R165, R171, R172). -/
def Fsm.inLoop : Fsm → Bool
  | .pollQ | .pollSleep | .cfPollQ | .cfPollSleep => true
  | .idle | .argchk | .build | .txWrite | .txFlush | .availCheck | .rxRead | .validate | .decode | .cfFlush | .cfDrain
  | .complete => false

/-- The states of an operation's normal path before COMPLETE (44_operations.md R226). -/
def Fsm.onPath : Fsm → Bool
  | .argchk | .build | .txWrite | .txFlush | .pollQ | .pollSleep | .availCheck | .rxRead | .validate | .decode => true
  | .idle | .cfFlush | .cfPollQ | .cfPollSleep | .cfDrain | .complete => false

/-- The states of the cache flush (42_transport_exchange.md R170, R171, R172, R173). -/
def Fsm.inFlush : Fsm → Bool
  | .cfFlush | .cfPollQ | .cfPollSleep | .cfDrain => true
  | .idle | .argchk | .build | .txWrite | .txFlush | .pollQ | .pollSleep | .availCheck | .rxRead | .validate | .decode
  | .complete => false

/-- The states of the normal path after the short-write test (42_transport_exchange.md R162). -/
def Fsm.afterFullWrite : Fsm → Bool
  | .pollQ | .pollSleep | .availCheck | .rxRead | .validate | .decode => true
  | .idle | .argchk | .build | .txWrite | .txFlush | .cfFlush | .cfPollQ | .cfPollSleep | .cfDrain | .complete => false

/-- The latched pair names an operation with a legal argument (30_encoding.md R102). -/
def State.latchedLegal (s : State) : Bool :=
  match decodeFields s.opR s.argR with
  | .ok i => i.wellFormed
  | .error _ => false

/-- BUF holds the command frame of the operation in progress (41_frame_builder.md R140). -/
def State.holdsCommandFrame (s : State) : Bool :=
  match decodeFields s.opR s.argR with
  | .ok i => decide (s.buf = encodeFrame s.cfg i)
  | .error _ => false

/-- INVARIANT of the flags and the FSM state: BUSY is 1 exactly outside IDLE (10_state.md R42), DONE is 1 only in IDLE
(R43), and the engine hangs only in a step with a blocking call (70_reset_and_hazards.md R284). -/
def State.FlagsInv (s : State) : Prop :=
  s.busy = decide (s.fsm ≠ .idle) ∧ (s.done = true → s.fsm = .idle) ∧ (s.hung = true → s.fsm.mayHang = true)

/-- INVARIANT of the ranges: codes 9 to 15 never occur (10_state.md R44, 60_exceptions.md R240), RCOUNT is 0 to 9
(R38), TEMP is -40 to 215 (R47). -/
def State.RangesInv (s : State) : Prop :=
  s.status.toNat ≤ 8 ∧ s.err.toNat ≤ 8 ∧ s.rcount ≤ 9 ∧ -40 ≤ s.temp.toInt ∧ s.temp.toInt ≤ 215

/-- INVARIANT of the poll counter: POLL_MAX is at least 1 (00_scope.md R7), POLL_CNT is below it before every query and
sleep of a loop, and at most it after the loop (10_state.md R39). -/
def State.PollInv (s : State) : Prop :=
  1 ≤ s.cfg.pollMax ∧ (s.fsm.inLoop = true → s.pollCnt < s.cfg.pollMax) ∧
    (s.fsm = .availCheck ∨ s.fsm = .rxRead ∨ s.fsm = .validate ∨ s.fsm = .decode ∨ s.fsm = .cfDrain →
      s.pollCnt ≤ s.cfg.pollMax)

/-- INVARIANT of the outcome: ERR is OK on the normal path and a transport or validation code in the cache flush
(10_state.md R41, 42_transport_exchange.md R169), the outputs are 0 while the operation runs (44_operations.md R220), a
completed operation's STATUS and RESULT are those of COMPLETE (60_exceptions.md R246, R247), and a reading is visible
exactly after a READ_CO2 that succeeded (10_state.md R45, 43_response_validator.md R208). -/
def State.OutcomeInv (s : State) : Prop :=
  (s.fsm.onPath = true → s.err = 0) ∧
  (s.fsm.inFlush = true → 2 ≤ s.err.toNat) ∧
  (s.fsm ≠ .idle → s.status = 0 ∧ s.result = 0) ∧
  (s.fsm = .idle → s.status = s.err) ∧
  (s.fsm = .idle → s.done = true → s.result = resultOf s.opR s.status s.ppm) ∧
  (s.done = false → s.result = 0) ∧
  (s.resValid = false → s.ppm = 0 ∧ s.temp = 0) ∧
  (s.resValid = true → s.err = 0 ∧ s.opR = 0 ∧ (s.fsm = .complete ∨ s.fsm = .idle)) ∧
  (s.fsm = .complete ∨ s.done = true → s.err = 0 → s.opR = 0 → s.resValid = true)

/-- INVARIANT of the path: the exchange runs only for an operation whose argument is legal (41_frame_builder.md R149),
TX_WRITE finds the operation's own frame in BUF (R144), AVAIL_CHECK is entered with bytes available and RX_READ with nine
(42_transport_exchange.md R166), a full write stands behind every later step of the normal path (R162), only READ_CO2 is
validated, with nine bytes read (43_response_validator.md R200), and DECODE finds a frame that passed all checks (R205). -/
def State.PathInv (s : State) : Prop :=
  (s.fsm.inFlush = true ∨ (s.fsm.onPath = true ∧ s.fsm ≠ .argchk) → s.latchedLegal = true) ∧
  (s.fsm = .complete → s.err ≠ 1 → s.latchedLegal = true) ∧
  (s.fsm = .txWrite → s.holdsCommandFrame = true) ∧
  (s.fsm = .availCheck → 0 < s.acount) ∧
  (s.fsm = .rxRead → s.acount = 9) ∧
  (s.fsm.afterFullWrite = true → 9 ≤ s.wcount) ∧
  (s.fsm = .validate ∨ s.fsm = .decode → s.opR = 0 ∧ s.rcount = 9) ∧
  (s.fsm = .decode →
    s.buf.b0 = 0xFF ∧ s.ckComputed = checksum s.buf ∧ s.ckReceived = s.buf.b8 ∧ s.ckComputed = s.ckReceived ∧
      (s.cfg.echoCheck = true → s.buf.b1 = 0x86))

/-- THE INVARIANT of the machine. -/
def State.Inv (s : State) : Prop :=
  s.FlagsInv ∧ s.RangesInv ∧ s.PollInv ∧ s.OutcomeInv ∧ s.PathInv

/-- Two states that no step can tell apart and the host cannot either (10_state.md R57, 44_operations.md R227): they agree
on the FSM state, the configuration, the outputs and everything outside the engine, and on each other register in the FSM
states in which a rule still reads it. BUF, the latches, the counters and ERR may differ wherever they are dead. -/
def SameLive (s t : State) : Prop :=
  s.fsm = t.fsm ∧ s.cfg = t.cfg ∧ s.outputs = t.outputs ∧
  s.hung = t.hung ∧ s.inputs = t.inputs ∧ s.tick = t.tick ∧ s.calls = t.calls ∧
  (s.fsm ≠ .idle → s.opR = t.opR ∧ s.argR = t.argR ∧ s.err = t.err) ∧
  (s.fsm = .txWrite ∨ s.fsm = .validate ∨ s.fsm = .decode → s.buf = t.buf) ∧
  (s.fsm = .txFlush → s.wcount = t.wcount) ∧
  (s.fsm = .availCheck → s.acount = t.acount) ∧
  (s.fsm.inLoop = true → s.pollCnt = t.pollCnt) ∧
  (s.fsm = .cfDrain → s.drainLeft = t.drainLeft)

/-- The most steps an operation still takes, its CF_DRAIN steps not counted (42_transport_exchange.md R177): from ARGCHK
`9 + 2 * (2 * POLL_MAX - 1)`. -/
def State.stepsLeft (s : State) : Nat :=
  let p := s.cfg.pollMax
  match s.fsm with
  | .idle => 0
  | .complete => 1
  | .cfDrain => 1
  | .cfPollQ => 2 * (p - s.pollCnt)
  | .cfPollSleep => 1 + 2 * (p - s.pollCnt)
  | .cfFlush => 1 + 2 * p
  | .decode => 2
  | .validate => 2 + 2 * p
  | .rxRead => 3 + 2 * p
  | .availCheck => 4 + 2 * p
  | .pollQ => 3 + 2 * p + 2 * (p - s.pollCnt)
  | .pollSleep => 4 + 2 * p + 2 * (p - s.pollCnt)
  | .txFlush => 4 + 4 * p
  | .txWrite => 5 + 4 * p
  | .build => 6 + 4 * p
  | .argchk => 7 + 4 * p

end Sys2Proof.Machine
end

