-- ==== Sys2Proof/Certificates/Slice0/Obligations.lean ====
section
/-! DEFINITION. The statements for the provers, from the numbered rules of spec/. Where a register or a frame byte is given
a value, the value is written out here and not taken from the meaning. -/

open Sys2Proof Sys2Proof.Machine

/-! ## Encoding -/

/-- R114: the host word decodes by its bits 18:16 and 15:0, over every 32-bit value; SET_ABC's `enabled` is bit 0. -/
def Obligations.HostWordDecodesByItsFields : Prop :=
  ∀ w : Word,
    let op := w.toNat / 65536 % 8
    let arg : Half := BitVec.ofNat 16 (w.toNat % 65536)
    (op = 0 → decode w = .ok (.readCo2 arg)) ∧
    (op = 1 → decode w = .ok (.calZero arg)) ∧
    (op = 2 → decode w = .ok (.calSpan arg)) ∧
    (op = 3 → decode w = .ok (.setAbc arg) ∧ abcEnabled arg = decide (w.toNat % 2 = 1)) ∧
    (op = 4 → decode w = .ok (.setRange arg)) ∧
    (5 ≤ op → decode w = .error (.reservedOp (BitVec.ofNat 3 op)))

/-- R103, first sentence: RSVD (bits 31:19) is ignored. -/
def Obligations.ReservedWordBitsAreIgnored : Prop :=
  ∀ (w : Word) (r : BitVec 13), decode (w ^^^ (r.zeroExtend 32 <<< 19)) = decode w

/-- R100 to R102: encoding an operation, with any argument, and decoding the word gives it back, and RSVD is 0. -/
def Obligations.DecodeOfEncodeIsTheOperation : Prop :=
  ∀ i : Instr, decode (encode i) = .ok i ∧ (encode i).toNat < 2 ^ 19

/-- R100 to R103: a word that decodes is the encoding of its operation but for RSVD. -/
def Obligations.EncodeOfDecodeIsTheWordWithoutRsvd : Prop :=
  ∀ (w : Word) (i : Instr), decode w = .ok i → encode i = w &&& 0x0007FFFF#32

/-- The words of 95_test_vectors.md 2.2 and of R113 decode to the operations they stand for. -/
def Obligations.ListedWordsDecodeRight : Prop :=
  decode 0x00000000 = .ok (.readCo2 0) ∧ decode 0x00001234 = .ok (.readCo2 0x1234) ∧
  decode 0xFFF80000 = .ok (.readCo2 0) ∧ decode 0x00010000 = .ok (.calZero 0) ∧
  decode 0x000203E7 = .ok (.calSpan 999) ∧ decode 0x00021388 = .ok (.calSpan 5000) ∧
  decode 0x00030001 = .ok (.setAbc 1) ∧ decode 0x0003FFFF = .ok (.setAbc 0xFFFF) ∧
  decode 0x000407D0 = .ok (.setRange 2000) ∧ decode 0x00050000 = .error (.reservedOp 5) ∧
  decode 0x00060000 = .error (.reservedOp 6) ∧ decode 0x00071234 = .error (.reservedOp 7)

/-- R113: the word each assembler line stands for, as a line with its operand as a number, for every operand that fits ARG.
That an operand of 65536 or more gives no instruction is the model's choice (log 17). The reading of a line's text is not
covered. -/
def Obligations.AssemblerLinesGiveTheirWords : Prop :=
  AsmLine.readCo2.instr.map encode = some 0x00000000 ∧
  AsmLine.calZero.instr.map encode = some 0x00010000 ∧
  AsmLine.setAbcOn.instr.map encode = some 0x00030001 ∧
  AsmLine.setAbcOff.instr.map encode = some 0x00030000 ∧
  AsmLine.setAbcOn.instr = (AsmLine.setAbc 1).instr ∧
  AsmLine.setAbcOff.instr = (AsmLine.setAbc 0).instr ∧
  ∀ n : Nat,
    (AsmLine.calSpan n).instr.map encode = (if n < 65536 then some (BitVec.ofNat 32 (0x00020000 + n)) else none) ∧
    (AsmLine.setAbc n).instr.map encode = (if n < 65536 then some (BitVec.ofNat 32 (0x00030000 + n)) else none) ∧
    (AsmLine.setRange n).instr.map encode = (if n < 65536 then some (BitVec.ofNat 32 (0x00040000 + n)) else none)

/-- R104, R105, R107, R115: under R7's constraint a monitor reads back from a command frame the operation it was built
for, with its argument as the frame shows it. The argument it reads where the frame does not show ARG whole, 0 for READ_CO2
and CAL_ZERO and 1 or 0 for SET_ABC on and off, is the model's choice (log 16). -/
def Obligations.CommandFrameShowsItsOperation : Prop :=
  ∀ (c : Config) (i : Instr), c.wellFormed = true → decodeFrame c (encodeFrame c i) = .ok i.asSeenOnWire

/-- R115: a frame the monitor accepts is, byte for byte, the command frame of the operation it reads. -/
def Obligations.AcceptedFrameIsTheFrameOfItsOperation : Prop :=
  ∀ (c : Config) (f : Frame) (i : Instr), decodeFrame c f = .ok i → encodeFrame c i = f

/-! ## Checksum -/

/-- R130: the checksum is `0xFF - (s mod 256) + 1` truncated to 8 bits, `s` the integer sum of bytes 1 to 7, at most 1785;
bytes 0 and 8 are not summed. -/
def Obligations.ChecksumOfTheSumOfBytesOneToSeven : Prop :=
  ∀ b0 b1 b2 b3 b4 b5 b6 b7 b8 : Byte,
    let s := b1.toNat + b2.toNat + b3.toNat + b4.toNat + b5.toNat + b6.toNat + b7.toNat
    s ≤ 1785 ∧ (checksum ⟨b0, b1, b2, b3, b4, b5, b6, b7, b8⟩).toNat = (0xFF - s % 256 + 1) % 256

/-- R131: the three equivalent forms. -/
def Obligations.ChecksumIsTheNegatedSum : Prop :=
  ∀ f : Frame,
    let s := frameSum f
    (checksum f).toNat = (256 - s % 256) % 256 ∧
    ((checksum f).toNat : Int) = (-(s : Int)) % 256 ∧
    checksum f = ~~~(BitVec.ofNat 8 (s % 256)) + 1 ∧
    checksum f = -(f.b1 + f.b2 + f.b3 + f.b4 + f.b5 + f.b6 + f.b7)

/-- R132: the intermediate value is 0x100 exactly when the sum is 0 mod 256, and the checksum is 0x00 exactly then; else
it lies in 0x01 to 0xFF. -/
def Obligations.ChecksumIsZeroExactlyWhenTheSumIs : Prop :=
  ∀ f : Frame,
    let s := frameSum f
    let v := 0xFF - s % 256 + 1
    (s % 256 = 0 → v = 0x100) ∧ (s % 256 ≠ 0 → 1 ≤ v ∧ v ≤ 0xFF) ∧ (checksum f = 0 ↔ s % 256 = 0)

/-- R133: a frame carries its own checksum exactly when its bytes 1 to 8 sum to 0 mod 256. -/
def Obligations.FrameSumsToZeroIffChecksumRight : Prop :=
  ∀ f : Frame, f.b8 = checksum f ↔ (frameSum f + f.b8.toNat) % 256 = 0

/-- R134: `verify(F)` is `checksum(F) = F[8]`, it succeeds on every payload with its own checksum, and the checksum is a
function of the seven bytes alone. -/
def Obligations.VerifyAcceptsExactlyTheOwnChecksum : Prop :=
  (∀ f : Frame, verify f = true ↔ checksum f = f.b8) ∧
  (∀ f : Frame, verify { f with b8 := checksum f } = true) ∧
  (∀ f g : Frame, f.b1 = g.b1 → f.b2 = g.b2 → f.b3 = g.b3 → f.b4 = g.b4 → f.b5 = g.b5 → f.b6 = g.b6 → f.b7 = g.b7 →
    checksum f = checksum g)

/-- R135: flipping one bit of one of bytes 1 to 7 changes the checksum; a change that leaves the sum mod 256 unchanged
does not, such as +1 on one byte with -1 on another, a swap of two bytes, or a flip of bit 7 in two bytes; nor does any
change of byte 0. -/
def Obligations.ChecksumDetectsEverySingleBitFlip : Prop :=
  (∀ (f : Frame) (i : Fin 9) (j : Nat), 1 ≤ i.val → i.val ≤ 7 → j ≤ 7 → checksum (flipBit f i j) ≠ checksum f) ∧
  (∀ f g : Frame, frameSum f % 256 = frameSum g % 256 → checksum f = checksum g) ∧
  (∀ f : Frame, f.b3 ≠ 0xFF → f.b4 ≠ 0x00 → checksum { f with b3 := f.b3 + 1, b4 := f.b4 - 1 } = checksum f) ∧
  (∀ f : Frame, checksum { f with b1 := f.b2, b2 := f.b1 } = checksum f) ∧
  (∀ f : Frame, checksum (flipBit (flipBit f 3 7) 4 7) = checksum f) ∧
  (∀ (f : Frame) (x : Byte), checksum { f with b0 := x } = checksum f)

/-- R137: the nine worked values: the sum of bytes 1 to 7, the sum mod 256, the checksum. -/
def Obligations.WorkedChecksums : Prop :=
  let row : Frame → Nat → Nat → Byte → Prop := fun f s m ck => frameSum f = s ∧ s % 256 = m ∧ checksum f = ck
  row ⟨0xFF, 0x01, 0x86, 0x00, 0x00, 0x00, 0x00, 0x00, 0x00⟩ 0x087 0x87 0x79 ∧
  row ⟨0xFF, 0x86, 0x03, 0xE8, 0x28, 0x00, 0x00, 0x00, 0x00⟩ 0x199 0x99 0x67 ∧
  row ⟨0x00, 0x00, 0x00, 0x00, 0x00, 0x00, 0x00, 0x00, 0x00⟩ 0 0x00 0x00 ∧
  row ⟨0x00, 0x01, 0x00, 0x00, 0x00, 0x00, 0x00, 0x00, 0x00⟩ 1 0x01 0xFF ∧
  row ⟨0x00, 0x7F, 0x00, 0x00, 0x00, 0x00, 0x00, 0x00, 0x00⟩ 0x7F 0x7F 0x81 ∧
  row ⟨0x00, 0x80, 0x00, 0x00, 0x00, 0x00, 0x00, 0x00, 0x00⟩ 0x80 0x80 0x80 ∧
  row ⟨0x00, 0xFF, 0x00, 0x00, 0x00, 0x00, 0x00, 0x00, 0x00⟩ 0xFF 0xFF 0x01 ∧
  row ⟨0x00, 0xFF, 0x01, 0x00, 0x00, 0x00, 0x00, 0x00, 0x00⟩ 0x100 0x00 0x00 ∧
  row ⟨0x00, 0xFF, 0xFF, 0xFF, 0xFF, 0xFF, 0xFF, 0xFF, 0x00⟩ 0x6F9 0xF9 0x07

/-- R150: the nine worked frames BUILD writes, with the default command bytes. -/
def Obligations.WorkedFrames : Prop :=
  ∀ s : State, s.fsm = .build →
    s.cfg.cmdZero = 0x87 → s.cfg.cmdSpan = 0x88 → s.cfg.cmdAbc = 0x79 → s.cfg.cmdRange = 0x99 →
    let writes : Frame → Host.Outcome State Fault Refusal := fun f => .next { s.after [] with buf := f, fsm := .txWrite }
    (∀ a, exec (.readCo2 a) s = writes ⟨0xFF, 0x01, 0x86, 0x00, 0x00, 0x00, 0x00, 0x00, 0x79⟩) ∧
    (∀ a, exec (.calZero a) s = writes ⟨0xFF, 0x01, 0x87, 0x00, 0x00, 0x00, 0x00, 0x00, 0x78⟩) ∧
    exec (.calSpan 2000) s = writes ⟨0xFF, 0x01, 0x88, 0x07, 0xD0, 0x00, 0x00, 0x00, 0xA0⟩ ∧
    exec (.calSpan 1000) s = writes ⟨0xFF, 0x01, 0x88, 0x03, 0xE8, 0x00, 0x00, 0x00, 0x8C⟩ ∧
    exec (.calSpan 5000) s = writes ⟨0xFF, 0x01, 0x88, 0x13, 0x88, 0x00, 0x00, 0x00, 0xDC⟩ ∧
    exec (.setAbc 1) s = writes ⟨0xFF, 0x01, 0x79, 0xA0, 0x00, 0x00, 0x00, 0x00, 0xE6⟩ ∧
    exec (.setAbc 0) s = writes ⟨0xFF, 0x01, 0x79, 0x00, 0x00, 0x00, 0x00, 0x00, 0x86⟩ ∧
    exec (.setRange 2000) s = writes ⟨0xFF, 0x01, 0x99, 0x07, 0xD0, 0x00, 0x00, 0x00, 0x8F⟩ ∧
    exec (.setRange 5000) s = writes ⟨0xFF, 0x01, 0x99, 0x13, 0x88, 0x00, 0x00, 0x00, 0xCB⟩

/-! ## Which instruction a step runs -/

/-- A step runs the decoded operation: in IDLE the one CMD_WORD names when START is 1, with the host's new configuration
if it sets one; in every other FSM state the one OP_R and ARG_R hold; and `withFetchWord` puts a table row's word where the
next step takes it. That a configuration set in the step of START is in force in that step already is the model's choice
(log 8), and so is what `withFetchWord` stands for (log 5). -/
def Obligations.StepRunsTheNamedOperation : Prop :=
  (∀ (s : State) (w : Word) (i : Instr),
    s.waiting → starts s.input w → decode w = .ok i → step s = exec i s) ∧
  (∀ (s : State) (c : Config) (w : Word) (i : Instr),
    s.waiting → s.busy = false → s.input.rst = false → s.input.start = true → s.input.cmdWord = w →
    s.input.config = some c → 1 ≤ c.pollMax → decode w = .ok i → step s = exec i { s with cfg := c }) ∧
  (∀ (s : State) (i : Instr),
    s.fsm ≠ .idle → s.hung = false → s.input.rst = false → s.input.config = none →
    decodeFields s.opR s.argR = .ok i → step s = exec i s) ∧
  (∀ (s : State) (w : Nat) (i : Instr),
    decodeTableWord 32 w = some i → step (s.withFetchWord 32 w) = exec i (s.withFetchWord 32 w))

/-- R220: in IDLE, START = 1 latches OP and ARG of any command word, a reserved one too, clears ERR and the outputs, and
goes to ARGCHK; in every other state START and CMD_WORD change nothing. -/
def Obligations.StartIsAcceptedInIdleOnly : Prop :=
  (∀ (s : State) (w : Word), s.waiting → starts s.input w →
    step s = .next { s.after [] with
      opR := BitVec.ofNat 3 (w.toNat / 65536), argR := BitVec.ofNat 16 w.toNat, err := 0, busy := true, done := false,
      status := 0, result := 0, resValid := false, ppm := 0, temp := 0, ckComputed := 0, ckReceived := 0,
      fsm := .argchk }) ∧
  (∀ (s : State) (x : Input) (rest : List Input) (b : Bool) (w : Word),
    s.fsm ≠ .idle → s.inputs = x :: rest →
    step { s with inputs := { x with start := b, cmdWord := w } :: rest } = step { s with inputs := x :: rest })

/-- R220 for each operation: in IDLE every operation is accepted, its own OP and ARG latched. -/
def Obligations.EveryOperationIsAccepted : Prop :=
  ∀ (s : State) (a : Half), s.fsm = .idle →
    let t : State := { s.after [] with
      argR := a, err := 0, busy := true, done := false, status := 0, result := 0, resValid := false, ppm := 0, temp := 0,
      ckComputed := 0, ckReceived := 0, fsm := .argchk }
    exec (.readCo2 a) s = .next { t with opR := 0 } ∧
    exec (.calZero a) s = .next { t with opR := 1 } ∧
    exec (.calSpan a) s = .next { t with opR := 2 } ∧
    exec (.setAbc a) s = .next { t with opR := 3 } ∧
    exec (.setRange a) s = .next { t with opR := 4 }

/-- R32, R272: without START, RST or a new configuration the engine waits in IDLE; only the step's input is used up. -/
def Obligations.IdleWaitsForStart : Prop :=
  ∀ s : State, s.waiting → s.input.rst = false → s.input.config = none → s.input.start = false →
    step s = .next (s.after [])

/-! ## The steps of an operation: what each writes, and nothing else -/

/-- R146, R147, R148: ARGCHK passes READ_CO2, CAL_ZERO and SET_ABC with every ARG, CAL_SPAN exactly for 1000 to 5000,
SET_RANGE exactly for 2000 and 5000; every other argument, and every reserved OP, fails with InvalidArgument, straight to
COMPLETE, with no call. -/
def Obligations.ArgumentCheckPassesExactlyTheLegal : Prop :=
  (∀ (s : State) (a : Half), s.fsm = .argchk →
    let pass : Host.Outcome State Fault Refusal := .next { s.after [] with fsm := .build }
    let reject : Host.Outcome State Fault Refusal := .next { s.after [] with err := 1, fsm := .complete }
    exec (.readCo2 a) s = pass ∧
    exec (.calZero a) s = pass ∧
    exec (.setAbc a) s = pass ∧
    (1000 ≤ a.toNat → a.toNat ≤ 5000 → exec (.calSpan a) s = pass) ∧
    (a.toNat < 1000 ∨ 5000 < a.toNat → exec (.calSpan a) s = reject) ∧
    (a.toNat = 2000 ∨ a.toNat = 5000 → exec (.setRange a) s = pass) ∧
    (a.toNat ≠ 2000 → a.toNat ≠ 5000 → exec (.setRange a) s = reject)) ∧
  (∀ s : State, s.fsm = .argchk → s.hung = false → s.input.rst = false → s.input.config = none → 5 ≤ s.opR.toNat →
    step s = .next { s.after [] with err := 1, fsm := .complete })

/-- R140, R141, R142: BUILD writes all nine bytes, the command byte and the argument bytes of the operation among them and
the checksum of the bytes it writes, and goes to TX_WRITE. -/
def Obligations.BuildWritesTheOperationsFrame : Prop :=
  ∀ (s : State) (a : Half), s.fsm = .build →
    let built : Byte → Byte → Byte → Host.Outcome State Fault Refusal := fun cmd d0 d1 =>
      .next { s.after [] with
        buf := ⟨0xFF, 0x01, cmd, d0, d1, 0x00, 0x00, 0x00, -(0x01 + cmd + d0 + d1)⟩, fsm := .txWrite }
    let high : Byte := BitVec.ofNat 8 (a.toNat / 256)
    let low : Byte := BitVec.ofNat 8 (a.toNat % 256)
    exec (.readCo2 a) s = built 0x86 0x00 0x00 ∧
    exec (.calZero a) s = built s.cfg.cmdZero 0x00 0x00 ∧
    exec (.calSpan a) s = built s.cfg.cmdSpan high low ∧
    exec (.setAbc a) s = built s.cfg.cmdAbc (if a.toNat % 2 = 1 then 0xA0 else 0x00) 0x00 ∧
    exec (.setRange a) s = built s.cfg.cmdRange high low

/-- R161: TX_WRITE hands the nine bytes of BUF to the transport, byte 0 first, and WCOUNT takes the count it answers. -/
def Obligations.TxWriteSendsTheBuffer : Prop :=
  ∀ (i : Instr) (s : State), s.fsm = .txWrite → s.input.returns = true →
    exec i s = .next { s.after [.write [s.buf.b0, s.buf.b1, s.buf.b2, s.buf.b3, s.buf.b4, s.buf.b5, s.buf.b6, s.buf.b7,
      s.buf.b8]] with wcount := s.input.written, fsm := .txFlush }

/-- R162: TX_FLUSH flushes whether or not the write was short; a count below 9 fails with ShortWrite, any other, above 9
too, starts the poll-wait loop with POLL_CNT = 0. -/
def Obligations.TxFlushTestsTheWriteCount : Prop :=
  ∀ (i : Instr) (s : State), s.fsm = .txFlush → s.input.returns = true →
    (s.wcount < 9 → exec i s = .next { s.after [.flush] with err := 2, fsm := .cfFlush }) ∧
    (9 ≤ s.wcount → exec i s = .next { s.after [.flush] with pollCnt := 0, fsm := .pollQ })

/-- R164: POLL_Q makes one query, counts it, and leaves the loop at a non-zero count, at the bound with NoResponse, or
sleeps. -/
def Obligations.PollQueryDecidesTheLoop : Prop :=
  ∀ (i : Instr) (s : State), s.fsm = .pollQ →
    let t : State := { s.after [.available] with acount := s.input.available, pollCnt := s.pollCnt + 1 }
    (0 < s.input.available → exec i s = .next { t with fsm := .availCheck }) ∧
    (s.input.available = 0 → s.pollCnt + 1 = s.cfg.pollMax → exec i s = .next { t with err := 3, fsm := .cfFlush }) ∧
    (s.input.available = 0 → s.pollCnt + 1 ≠ s.cfg.pollMax → exec i s = .next { t with fsm := .pollSleep })

/-- R165: POLL_SLEEP sleeps POLL_DELAY and queries again; no register changes. -/
def Obligations.PollSleepReturnsToTheQuery : Prop :=
  ∀ (i : Instr) (s : State), s.fsm = .pollSleep →
    exec i s = .next { s.after [.sleep s.cfg.pollDelay] with fsm := .pollQ }

/-- R166: AVAIL_CHECK goes on to RX_READ exactly at ACOUNT = 9 and makes no call; every other count, below or above,
fails with UnexpectedAvailableCount. -/
def Obligations.AvailCheckRequiresExactlyNine : Prop :=
  ∀ (i : Instr) (s : State), s.fsm = .availCheck →
    (s.acount = 9 → exec i s = .next { s.after [] with fsm := .rxRead }) ∧
    (s.acount ≠ 9 → exec i s = .next { s.after [] with err := 4, fsm := .cfFlush })

/-- R167, R76: RX_READ puts the k bytes received into BUF[0..k-1], the first first, keeps BUF[k..8], ignores bytes beyond
nine, and sets RCOUNT; fewer than nine fail with ShortRead, nine go to VALIDATE for READ_CO2 and to COMPLETE for every
other operation. -/
def Obligations.RxReadFillsTheBuffer : Prop :=
  ∀ (s : State) (a : Half), s.fsm = .rxRead → s.input.returns = true →
    let l := s.input.received
    let t : State := { s.after [.readBytes 9] with
      rcount := min l.length 9,
      buf := ⟨l.getD 0 s.buf.b0, l.getD 1 s.buf.b1, l.getD 2 s.buf.b2, l.getD 3 s.buf.b3, l.getD 4 s.buf.b4,
        l.getD 5 s.buf.b5, l.getD 6 s.buf.b6, l.getD 7 s.buf.b7, l.getD 8 s.buf.b8⟩ }
    (l.length < 9 → ∀ i : Instr, exec i s = .next { t with err := 5, fsm := .cfFlush }) ∧
    (9 ≤ l.length →
      exec (.readCo2 a) s = .next { t with fsm := .validate } ∧
      exec (.calZero a) s = .next { t with fsm := .complete } ∧
      exec (.calSpan a) s = .next { t with fsm := .complete } ∧
      exec (.setAbc a) s = .next { t with fsm := .complete } ∧
      exec (.setRange a) s = .next { t with fsm := .complete })

/-- R170, R171, R172, R173: the four steps of the cache flush. -/
def Obligations.CacheFlushSteps : Prop :=
  ∀ (i : Instr) (s : State),
    (s.fsm = .cfFlush → s.input.returns = true →
      exec i s = .next { s.after [.flush] with pollCnt := 0, fsm := .cfPollQ }) ∧
    (s.fsm = .cfPollQ →
      let t : State := { s.after [.available] with acount := s.input.available, pollCnt := s.pollCnt + 1 }
      (0 < s.input.available ∨ s.pollCnt + 1 = s.cfg.pollMax →
        exec i s = .next { t with drainLeft := s.input.available, fsm := .cfDrain }) ∧
      (s.input.available = 0 → s.pollCnt + 1 ≠ s.cfg.pollMax → exec i s = .next { t with fsm := .cfPollSleep })) ∧
    (s.fsm = .cfPollSleep → exec i s = .next { s.after [.sleep s.cfg.pollDelay] with fsm := .cfPollQ }) ∧
    (s.fsm = .cfDrain →
      (s.drainLeft = 0 → exec i s = .next { s.after [] with fsm := .complete }) ∧
      (0 < s.drainLeft → s.input.returns = true →
        (s.input.drained = none → exec i s = .next { s.after [.read] with fsm := .complete }) ∧
        (∀ b : Byte, s.input.drained = some b →
          exec i s = .next { s.after [.read] with drainLeft := s.drainLeft - 1, fsm := .cfDrain })))

/-- R200, R204: VALIDATE for READ_CO2: header, then checksum, then echo, the first failure deciding; the checksum pair is
written exactly when the header is right; a failure goes to the cache flush when FLUSH_ON_VALIDATION_FAIL is 1, else to
COMPLETE. -/
def Obligations.ValidateChecksInOrder : Prop :=
  ∀ (s : State) (a : Half), s.fsm = .validate →
    let failed : Fsm := if s.cfg.flushOnValidationFail = true then .cfFlush else .complete
    let ck : Byte := -(s.buf.b1 + s.buf.b2 + s.buf.b3 + s.buf.b4 + s.buf.b5 + s.buf.b6 + s.buf.b7)
    let t : State := { s.after [] with ckComputed := ck, ckReceived := s.buf.b8 }
    (s.buf.b0 ≠ 0xFF → exec (.readCo2 a) s = .next { s.after [] with err := 6, fsm := failed }) ∧
    (s.buf.b0 = 0xFF → ck ≠ s.buf.b8 → exec (.readCo2 a) s = .next { t with err := 7, fsm := failed }) ∧
    (s.buf.b0 = 0xFF → ck = s.buf.b8 → s.cfg.echoCheck = true → s.buf.b1 ≠ 0x86 →
      exec (.readCo2 a) s = .next { t with err := 8, fsm := failed }) ∧
    (s.buf.b0 = 0xFF → ck = s.buf.b8 → s.cfg.echoCheck = false ∨ s.buf.b1 = 0x86 →
      exec (.readCo2 a) s = .next { t with fsm := .decode })

/-- R205, R206: DECODE for READ_CO2: PPM is `256 * BUF[2] + BUF[3]`, TEMP is `BUF[4] - 40`, RES_VALID is 1, COMPLETE is
next. -/
def Obligations.DecodeGivesPpmAndTemperature : Prop :=
  ∀ (s : State) (a : Half), s.fsm = .decode →
    exec (.readCo2 a) s = .next { s.after [] with
      ppm := BitVec.ofNat 16 (256 * s.buf.b2.toNat + s.buf.b3.toNat),
      temp := BitVec.ofInt 16 ((s.buf.b4.toNat : Int) - 40),
      resValid := true, fsm := .complete } ∧
    (BitVec.ofNat 16 (256 * s.buf.b2.toNat + s.buf.b3.toNat)).toNat = 256 * s.buf.b2.toNat + s.buf.b3.toNat ∧
    (BitVec.ofInt 16 ((s.buf.b4.toNat : Int) - 40)).toInt = (s.buf.b4.toNat : Int) - 40

/-- R246, R247: COMPLETE for each operation: STATUS takes ERR, RESULT is minus the code after a failure, the reading after
a successful READ_CO2 and 0 after any other success, BUSY falls, DONE rises, the engine is IDLE. -/
def Obligations.CompleteReportsTheOutcome : Prop :=
  ∀ (s : State) (a : Half), s.fsm = .complete →
    let t : State := { s.after [] with status := s.err, busy := false, done := true, fsm := .idle }
    (s.err ≠ 0 → ∀ i : Instr, exec i s = .next { t with result := BitVec.ofInt 32 (-(s.err.toNat : Int)) }) ∧
    (s.err = 0 →
      exec (.readCo2 a) s = .next { t with result := BitVec.ofNat 32 s.ppm.toNat } ∧
      exec (.calZero a) s = .next { t with result := 0 } ∧
      exec (.calSpan a) s = .next { t with result := 0 } ∧
      exec (.setAbc a) s = .next { t with result := 0 } ∧
      exec (.setRange a) s = .next { t with result := 0 })

/-- R240, R241, R245: what taking a failure writes and where it goes, by name: its code to ERR, the argument error to
COMPLETE, transport errors to the cache flush, validation errors to the cache flush or to COMPLETE by
FLUSH_ON_VALIDATION_FAIL; nothing else changes. -/
def Obligations.FailuresTakeTheirCodeAndRoute : Prop :=
  ∀ s : State,
    let failed : Fsm := if s.cfg.flushOnValidationFail = true then .cfFlush else .complete
    s.fail .invalidArgument = { s with err := 1, fsm := .complete } ∧
    s.fail .shortWrite = { s with err := 2, fsm := .cfFlush } ∧
    s.fail .noResponse = { s with err := 3, fsm := .cfFlush } ∧
    s.fail .unexpectedAvailableCount = { s with err := 4, fsm := .cfFlush } ∧
    s.fail .shortRead = { s with err := 5, fsm := .cfFlush } ∧
    s.fail .badHeader = { s with err := 6, fsm := failed } ∧
    s.fail .checksumMismatch = { s with err := 7, fsm := failed } ∧
    s.fail .commandMismatch = { s with err := 8, fsm := failed }

/-! ## Whole operations -/

/-- R221, R226: a READ_CO2 started in IDLE, with a full write, nine bytes available at the first query and nine bytes
received that pass the header, checksum and echo checks, completes after START acceptance and ten steps with STATUS = OK and
the reading, after the calls of R178. -/
def Obligations.ReadCo2SucceedsOnAGoodResponse : Prop :=
  ∀ (s : State) (w : Word) (x0 x1 x2 x3 x4 x5 x6 x7 x8 x9 x10 : Input) (rest : List Input) (f : Frame),
    s.waiting → s.inputs = x0 :: x1 :: x2 :: x3 :: x4 :: x5 :: x6 :: x7 :: x8 :: x9 :: x10 :: rest →
    starts x0 w → w.toNat / 65536 % 8 = 0 →
    (∀ x ∈ [x1, x2, x3, x4, x5, x6, x7, x8, x9, x10], quiet x) →
    9 ≤ x3.written → x5.available = 9 → x7.received = [f.b0, f.b1, f.b2, f.b3, f.b4, f.b5, f.b6, f.b7, f.b8] →
    f.b0 = 0xFF → verify f = true → s.cfg.echoCheck = false ∨ f.b1 = 0x86 →
    ∃ t : State, s.run 11 = .next t ∧
      t.fsm = .idle ∧ t.busy = false ∧ t.done = true ∧ t.status = 0 ∧ t.resValid = true ∧
      t.ppm.toNat = 256 * f.b2.toNat + f.b3.toNat ∧ t.temp.toInt = (f.b4.toNat : Int) - 40 ∧
      t.result.toInt = (256 * f.b2.toNat + f.b3.toNat : Nat) ∧
      t.ckComputed = f.b8 ∧ t.ckReceived = f.b8 ∧ t.buf = f ∧ t.cfg = s.cfg ∧ t.inputs = rest ∧
      t.calls = .readBytes 9 :: .available :: .flush ::
        .write [0xFF, 0x01, 0x86, 0x00, 0x00, 0x00, 0x00, 0x00, 0x79] :: s.calls

/-- R222 to R226: a setting operation with a legal argument, a full write, nine bytes available at the first query and at
least nine bytes received, whatever they are, completes after START acceptance and eight steps with STATUS = OK and
RESULT = 0, after the calls of R178. -/
def Obligations.SettingOperationSucceedsOnAnyNineBytes : Prop :=
  ∀ (s : State) (w : Word) (i : Instr) (x0 x1 x2 x3 x4 x5 x6 x7 x8 : Input) (rest : List Input),
    s.waiting → s.inputs = x0 :: x1 :: x2 :: x3 :: x4 :: x5 :: x6 :: x7 :: x8 :: rest →
    starts x0 w → decode w = .ok i → i.op ≠ 0 → i.wellFormed = true →
    (∀ x ∈ [x1, x2, x3, x4, x5, x6, x7, x8], quiet x) →
    9 ≤ x3.written → x5.available = 9 → 9 ≤ x7.received.length →
    ∃ t : State, s.run 9 = .next t ∧
      t.fsm = .idle ∧ t.busy = false ∧ t.done = true ∧ t.status = 0 ∧ t.result = 0 ∧ t.resValid = false ∧
      t.ppm = 0 ∧ t.temp = 0 ∧ t.cfg = s.cfg ∧ t.inputs = rest ∧
      t.calls = .readBytes 9 :: .available :: .flush :: .write (frameBytes (encodeFrame s.cfg i)) :: s.calls

/-- R110, R146: a word with a reserved OP, and an operation with an argument outside its legal values, completes after START
acceptance, ARGCHK and COMPLETE with STATUS = 1 and RESULT = -1, with no call and BUF untouched. -/
def Obligations.IllegalWordCompletesWithInvalidArgument : Prop :=
  ∀ (s : State) (w : Word) (x0 x1 x2 : Input) (rest : List Input),
    s.waiting → s.inputs = x0 :: x1 :: x2 :: rest → starts x0 w → quiet x1 → quiet x2 →
    (∀ i : Instr, decode w = .ok i → i.wellFormed = false) →
    ∃ t : State, s.run 3 = .next t ∧
      t.fsm = .idle ∧ t.busy = false ∧ t.done = true ∧ t.status = 1 ∧ t.result.toInt = -1 ∧ t.resValid = false ∧
      t.calls = s.calls ∧ t.buf = s.buf ∧ t.inputs = rest

/-- R168: the poll-wait loop entered with POLL_CNT = 0 fails with NoResponse after exactly POLL_MAX queries, all answered
0, and POLL_MAX - 1 sleeps between them; nothing else changes. -/
def Obligations.NoResponseAfterExactlyPollMaxQueries : Prop :=
  ∀ (s : State) (ys rest : List Input),
    s.fsm = .pollQ → s.pollCnt = 0 → s.hung = false → s.opR.toNat ≤ 4 → 1 ≤ s.cfg.pollMax →
    s.inputs = ys ++ rest → ys.length = 2 * s.cfg.pollMax - 1 → (∀ y ∈ ys, quiet y ∧ y.available = 0) →
    s.run (2 * s.cfg.pollMax - 1) = .next { s with
      acount := 0, pollCnt := s.cfg.pollMax, err := 3, fsm := .cfFlush, inputs := rest,
      tick := s.tick + (2 * s.cfg.pollMax - 1), calls := pollCalls s.cfg.pollMax s.cfg.pollDelay ++ s.calls }

/-- R168: the poll-wait loop entered with POLL_CNT = 0 whose q-th query, q at most POLL_MAX, is the first answered with a
non-zero count reaches AVAIL_CHECK after q queries and q - 1 sleeps, with that count in ACOUNT. -/
def Obligations.PollLoopEndsAtTheFirstNonzeroCount : Prop :=
  ∀ (s : State) (q : Nat) (ys rest : List Input) (x : Input),
    s.fsm = .pollQ → s.pollCnt = 0 → s.hung = false → s.opR.toNat ≤ 4 → 1 ≤ q → q ≤ s.cfg.pollMax →
    s.inputs = ys ++ x :: rest → ys.length = 2 * q - 2 → (∀ y ∈ ys, quiet y ∧ y.available = 0) →
    quiet x → 0 < x.available →
    s.run (2 * q - 1) = .next { s with
      acount := x.available, pollCnt := q, fsm := .availCheck, inputs := rest, tick := s.tick + (2 * q - 1),
      calls := pollCalls q s.cfg.pollDelay ++ s.calls }

/-- R170, R171, R172: the settle wait from CF_FLUSH ends after at most POLL_MAX queries: with DRAIN_LEFT = 0 when all are
answered 0, which is no error, or at the first non-zero count, which becomes DRAIN_LEFT. -/
def Obligations.SettleWaitLoadsTheDrainCount : Prop :=
  ∀ (s : State) (q : Nat) (x0 : Input) (ys rest : List Input) (x : Input),
    s.fsm = .cfFlush → s.hung = false → s.opR.toNat ≤ 4 → 1 ≤ q →
    (q = s.cfg.pollMax ∨ (q < s.cfg.pollMax ∧ 0 < x.available)) →
    s.inputs = x0 :: ys ++ x :: rest → ys.length = 2 * q - 2 → quiet x0 →
    (∀ y ∈ ys, quiet y ∧ y.available = 0) → quiet x →
    s.run (2 * q) = .next { s with
      acount := x.available, pollCnt := q, drainLeft := x.available, fsm := .cfDrain, inputs := rest,
      tick := s.tick + 2 * q, calls := pollCalls q s.cfg.pollDelay ++ .flush :: s.calls }

/-- R173, R179: the drain from DRAIN_LEFT = n makes exactly n reads when each answers a byte, discards them all, and goes to
COMPLETE; and it ends early, after m + 1 reads, when the read after m bytes answers none. -/
def Obligations.DrainReadsTheCountedBytes : Prop :=
  (∀ (s : State) (ys rest : List Input) (z : Input),
    s.fsm = .cfDrain → s.hung = false → s.opR.toNat ≤ 4 → s.inputs = ys ++ z :: rest → ys.length = s.drainLeft →
    (∀ y ∈ ys, quiet y ∧ y.drained.isSome = true) → quiet z →
    s.run (s.drainLeft + 1) = .next { s with
      drainLeft := 0, fsm := .complete, inputs := rest, tick := s.tick + (s.drainLeft + 1),
      calls := List.replicate s.drainLeft .read ++ s.calls }) ∧
  (∀ (s : State) (ys rest : List Input) (z : Input),
    s.fsm = .cfDrain → s.hung = false → s.opR.toNat ≤ 4 → s.inputs = ys ++ z :: rest → ys.length < s.drainLeft →
    (∀ y ∈ ys, quiet y ∧ y.drained.isSome = true) → quiet z → z.drained = none →
    s.run (ys.length + 1) = .next { s with
      drainLeft := s.drainLeft - ys.length, fsm := .complete, inputs := rest, tick := s.tick + (ys.length + 1),
      calls := List.replicate (ys.length + 1) .read ++ s.calls })

/-- R168, R171, R178: with a transport that accepts the write and reports no byte ever, every operation with a legal argument
completes with NoResponse after START acceptance and 4 * POLL_MAX + 5 steps: POLL_MAX queries, then the cache flush with
POLL_MAX more, and no read. -/
def Obligations.SilentSensorEndsInNoResponse : Prop :=
  ∀ (s : State) (w : Word) (i : Instr) (x0 : Input) (ys rest : List Input),
    s.waiting → 1 ≤ s.cfg.pollMax → s.inputs = x0 :: ys ++ rest → ys.length = 4 * s.cfg.pollMax + 5 →
    starts x0 w → decode w = .ok i → i.wellFormed = true →
    (∀ y ∈ ys, quiet y ∧ y.written = 9 ∧ y.available = 0) →
    ∃ t : State, s.run (4 * s.cfg.pollMax + 6) = .next t ∧
      t.fsm = .idle ∧ t.busy = false ∧ t.done = true ∧ t.status = 3 ∧ t.result.toInt = -3 ∧ t.resValid = false ∧
      t.ppm = 0 ∧ t.temp = 0 ∧ t.pollCnt = s.cfg.pollMax ∧ t.drainLeft = 0 ∧ t.inputs = rest ∧
      t.calls = pollCalls s.cfg.pollMax s.cfg.pollDelay ++ .flush ::
        (pollCalls s.cfg.pollMax s.cfg.pollDelay ++ .flush :: .write (frameBytes (encodeFrame s.cfg i)) :: s.calls)

/-- R177: an operation is over after at most `9 + 2 * (2 * POLL_MAX - 1) + D` steps from ARGCHK on, D the number of CF_DRAIN
steps among them, and from a state in CF_DRAIN at most DRAIN_LEFT + 1 CF_DRAIN steps follow, that state's own included. -/
def Obligations.OperationLengthIsBounded : Prop :=
  (∀ (n : Nat) (s : State),
    s.fsm = .argchk → s.PollInv → s.hung = false → n ≤ s.inputs.length → (∀ x ∈ s.inputs.take n, quiet x) →
    (∀ u ∈ State.visited n s, u.fsm ≠ .idle) →
    (State.visited n s).length ≤
      9 + 2 * (2 * s.cfg.pollMax - 1) + (State.visited n s).countP (fun u => decide (u.fsm = .cfDrain))) ∧
  (∀ (n : Nat) (s : State),
    s.fsm = .cfDrain → s.hung = false → n ≤ s.inputs.length → (∀ x ∈ s.inputs.take n, quiet x) →
    (∀ u ∈ State.visited n s, u.fsm ≠ .idle) →
    (State.visited n s).countP (fun u => decide (u.fsm = .cfDrain)) ≤ s.drainLeft + 1)

/-- R179 with the reference transport of R86 and any sensor script: in the drain, whatever the host's pins but RST and a new configuration, the
counted bytes leave the receive queue and only those; the operation then completes. -/
def Obligations.DrainEmptiesTheReferenceQueue : Prop :=
  ∀ (script : SensorScript) (b : Bench) (pins : List Input),
    b.machine.fsm = .cfDrain → b.machine.hung = false → b.machine.opR.toNat ≤ 4 →
    b.machine.drainLeft ≤ b.transport.queue.length → pins.length = b.machine.drainLeft + 1 →
    (∀ x ∈ pins, x.rst = false ∧ x.config = none) →
    ∃ t : Bench, b.run script pins = .next t ∧
      t.machine.fsm = .complete ∧ t.machine.drainLeft = 0 ∧ t.machine.err = b.machine.err ∧
      t.machine.buf = b.machine.buf ∧
      t.transport = { b.transport with queue := b.transport.queue.drop b.machine.drainLeft }

/-! ## Invariants -/

/-- R60: the machine right after reset meets the invariant. -/
def Obligations.ResetMeetsTheInvariant : Prop :=
  State.reset.Inv

/-- Every step keeps the invariant, from every state that meets it: R42 to R48 (flags, codes, RESULT, readings), R39
(POLL_CNT), R144 (the frame sent), R166 (ACOUNT), R169 (ERR in the cache flush), R208 (no decode without validation). -/
def Obligations.EveryStepKeepsTheInvariant : Prop :=
  ∀ s t : State, s.Inv → step s = .next t → t.Inv

/-- R144, R111: from every state that meets the invariant, the frame TX_WRITE sends is the command frame of the operation in
progress, whose argument is legal, and it carries the checksum of its own bytes 1 to 7. -/
def Obligations.SentFrameIsTheOperationsWithFreshChecksum : Prop :=
  ∀ s t : State, s.Inv → s.fsm = .txWrite → s.hung = false → s.input.rst = false → step s = .next t →
    ∃ i : Instr, decodeFields s.opR s.argR = .ok i ∧ i.wellFormed = true ∧ isCommandFrame s.buf = true ∧
      t.calls = .write (frameBytes (encodeFrame s.cfg i)) :: s.calls

/-- R43, R44, R45, R247: from every state that meets the invariant, a defined result has RESULT negative exactly after a
failure and equal to minus its code then; RES_VALID is 1 exactly after a READ_CO2 with OK, and RESULT is the PPM then; a
setting operation with OK has RESULT = 0. -/
def Obligations.ResultTellsFailureFromReading : Prop :=
  ∀ (s : State) (o : Outputs), s.Inv → s.definedResult = some o →
    (o.result.toInt < 0 ↔ o.status ≠ 0) ∧
    (o.status ≠ 0 → o.result.toInt = -(o.status.toNat : Int) ∧ o.ppm = 0 ∧ o.temp = 0) ∧
    (o.resValid = true ↔ o.status = 0 ∧ s.opR = 0) ∧
    (o.resValid = true → o.result.toInt = (o.ppm.toNat : Int)) ∧
    (o.status = 0 → s.opR ≠ 0 → o.result = 0)

/-! ## What a step leaves alone -/

/-- R46, R47, R209, R45: PPM, TEMP and RES_VALID change only in DECODE, at START acceptance and at RST. -/
def Obligations.ReadingChangesOnlyAtDecodeStartOrReset : Prop :=
  ∀ s t : State, step s = .next t → t.ppm ≠ s.ppm ∨ t.temp ≠ s.temp ∨ t.resValid ≠ s.resValid →
    s.fsm = .decode ∨ (s.fsm = .idle ∧ s.input.start = true) ∨ s.input.rst = true

/-- R34, R167: a byte of BUF changes only in BUILD, in RX_READ if it is one of the bytes received, and at RST. -/
def Obligations.BufferChangesOnlyInBuildRxReadOrReset : Prop :=
  ∀ (s t : State) (i : Fin 9), step s = .next t → frameByte t.buf i ≠ frameByte s.buf i →
    s.fsm = .build ∨ (s.fsm = .rxRead ∧ i.val < s.input.received.length) ∨ s.input.rst = true

/-- R35, R286: OP_R and ARG_R change only at START acceptance and at RST. -/
def Obligations.LatchesChangeOnlyAtStartOrReset : Prop :=
  ∀ s t : State, step s = .next t → t.opR ≠ s.opR ∨ t.argR ≠ s.argR →
    (s.fsm = .idle ∧ s.input.start = true) ∨ s.input.rst = true

/-- R44, R48, R42, R43: STATUS, RESULT, BUSY and DONE change only in COMPLETE, at START acceptance and at RST. -/
def Obligations.FlagsChangeOnlyAtCompleteStartOrReset : Prop :=
  ∀ s t : State, step s = .next t →
    t.status ≠ s.status ∨ t.result ≠ s.result ∨ t.busy ≠ s.busy ∨ t.done ≠ s.done →
    s.fsm = .complete ∨ (s.fsm = .idle ∧ s.input.start = true) ∨ s.input.rst = true

/-- R174: in the cache flush every operation answers a next state, in which nothing has changed but POLL_CNT, ACOUNT,
DRAIN_LEFT and the FSM state (and what is outside the engine's registers); ERR and BUF are as before, and the engine is still
in the cache flush or in COMPLETE. -/
def Obligations.CacheFlushChangesOnlyItsOwnRegisters : Prop :=
  ∀ (i : Instr) (s : State), s.fsm.inFlush = true →
    ∃ t : State, exec i s = .next t ∧
      t = { s with
        fsm := t.fsm, pollCnt := t.pollCnt, acount := t.acount, drainLeft := t.drainLeft, hung := t.hung,
        inputs := s.inputs.tail, tick := s.tick + 1, calls := t.calls } ∧
      (t.fsm.inFlush = true ∨ t.fsm = .complete)

/-- R51: no operation writes a configuration field, and a step changes the configuration only by the host's own move. -/
def Obligations.ConfigurationIsNeverWrittenByAnOperation : Prop :=
  (∀ (i : Instr) (s t : State), exec i s = .next t → t.cfg = s.cfg) ∧
  (∀ s t : State, step s = .next t → t.cfg ≠ s.cfg → s.busy = false ∧ s.input.config = some t.cfg)

/-! ## Reset, hang and the host's configuration move -/

/-- R270, R60: RST between two engine steps puts every engine register at its reset value, written out here (BUF's nine
zero bytes are the model's choice, log 1), whatever operation is in progress; it makes no call and leaves the configuration.
The machine right after reset has the same values. That a START in the same input is dropped is the model's choice
(log 19). -/
def Obligations.ResetAbandonsTheOperation : Prop :=
  (∀ s : State, s.hung = false → s.input.rst = true → s.input.config = none →
    step s = .next {
      fsm := .idle, buf := ⟨0x00, 0x00, 0x00, 0x00, 0x00, 0x00, 0x00, 0x00, 0x00⟩, opR := 0, argR := 0,
      wcount := 0, acount := 0, rcount := 0, pollCnt := 0, drainLeft := 0, err := 0, busy := false, done := false,
      status := 0, resValid := false, ppm := 0, temp := 0, result := 0, ckComputed := 0, ckReceived := 0,
      cfg := s.cfg, hung := false, inputs := s.inputs.tail, tick := s.tick + 1, calls := s.calls }) ∧
  State.reset = {
      fsm := .idle, buf := ⟨0x00, 0x00, 0x00, 0x00, 0x00, 0x00, 0x00, 0x00, 0x00⟩, opR := 0, argR := 0,
      wcount := 0, acount := 0, rcount := 0, pollCnt := 0, drainLeft := 0, err := 0, busy := false, done := false,
      status := 0, resValid := false, ppm := 0, temp := 0, result := 0, ckComputed := 0, ckReceived := 0,
      cfg := State.reset.cfg, hung := false, inputs := [], tick := 0, calls := [] }

/-- R284: a blocking call that never returns leaves the engine in its step, with nothing written, and it stays there for
good: START and RST change nothing any more (what RST does then is the model's reading of R270 and R284, log 4). -/
def Obligations.CallThatNeverReturnsHangsForGood : Prop :=
  (∀ (i : Instr) (s : State) (c : Call),
    s.fsm.mayHang = true → s.nextCall = some c → s.input.returns = false →
    exec i s = .next { s.after [c] with hung := true }) ∧
  (∀ (n : Nat) (s : State), s.hung = true → n ≤ s.inputs.length → (∀ x ∈ s.inputs.take n, x.config = none) →
    s.run n = .next { s with inputs := s.inputs.drop n, tick := s.tick + n })

/-- R285, R51, R7: a new configuration while BUSY = 1 is refused by name, one with POLL_MAX = 0 is refused by name, and any
other while BUSY = 0 is in force from that step on. -/
def Obligations.ConfigurationMoveOnlyWhileNotBusy : Prop :=
  ∀ (s : State) (x : Input) (rest : List Input) (c : Config), s.inputs = x :: rest → x.config = some c →
    (s.busy = true → step s = .refused .configChangedWhileBusy) ∧
    (s.busy = false → c.pollMax = 0 → step s = .refused .pollMaxZero) ∧
    (s.busy = false → 1 ≤ c.pollMax →
      step s = step { s with cfg := c, inputs := { x with config := none } :: rest })

/-! ## Independence and the calls -/

/-- R57: two states that agree on what is live stay so, step by step: the outputs, the calls and the next FSM state never
depend on a dead BUF, latch, counter or ERR. -/
def Obligations.DeadRegistersInfluenceNothing : Prop :=
  ∀ s t s1 : State, SameLive s t → step s = .next s1 → ∃ t1 : State, step t = .next t1 ∧ SameLive s1 t1

/-- R227: two idle engines with the same configuration and surroundings, whatever earlier operations left in their
registers, give the host the same outputs and make the same calls at every step from an accepted START on. -/
def Obligations.OperationsAreIndependent : Prop :=
  ∀ (n : Nat) (s t s1 : State) (w : Word),
    s.waiting → t.waiting → s.cfg = t.cfg → s.inputs = t.inputs → s.tick = t.tick → s.calls = t.calls →
    starts s.input w → s.run (n + 1) = .next s1 →
    ∃ t1 : State, t.run (n + 1) = .next t1 ∧ s1.outputs = t1.outputs ∧ s1.calls = t1.calls ∧ s1.fsm = t1.fsm

/-- R75, R80, R270: an engine step makes exactly the call its FSM state names, at most one; a reset and a hanging engine make
none. -/
def Obligations.StepMakesExactlyItsCall : Prop :=
  ∀ s t : State, s.input.config = none → step s = .next t →
    t.calls = (if s.hung = true ∨ s.input.rst = true then [] else s.nextCall.toList) ++ s.calls

/-! ## No step from the invariant stops -/

/-- R140, R146, R176: from every state that meets the invariant no step faults, whatever the outside world supplies, and a step
in which the host sets no configuration answers a next state, which meets the invariant again. So no run from reset reaches
the model's one fault (log 7). -/
def Obligations.StepFromTheInvariantNeverFaults : Prop :=
  (∀ (s : State) (r : Fault), s.Inv → step s ≠ .fault r) ∧
  (∀ s : State, s.Inv → s.input.config = none → ∃ t : State, step s = .next t ∧ t.Inv)
end

