-- ==== Sys2Proof/Laws/Encoding.lean ====
section
/-! SUPPORT. The fields of the host command word and of a command frame, as later proofs cite them. -/

namespace Sys2Proof

theorem wordOp_toNat (w : Word) : (wordOp w).toNat = w.toNat / 65536 % 8 := by
  simp [wordOp, BitVec.extractLsb'_toNat, Nat.shiftRight_eq_div_pow]

theorem wordArg_toNat (w : Word) : (wordArg w).toNat = w.toNat % 65536 := by
  simp [wordArg]

/-- OP of an encoded operation is its code. -/
@[simp] theorem wordOp_encode (i : Instr) : wordOp (encode i) = i.op := by
  apply BitVec.eq_of_getLsbD_eq
  intro k hk
  interval_cases k <;> simp [wordOp, encode, BitVec.getLsbD_of_ge]

/-- ARG of an encoded operation is its argument. -/
@[simp] theorem wordArg_encode (i : Instr) : wordArg (encode i) = i.arg := by
  apply BitVec.eq_of_getLsbD_eq
  intro k hk
  simp [wordArg, encode, hk]
  omega

/-- The host command word as a number. -/
theorem encode_toNat (i : Instr) : (encode i).toNat = i.op.toNat * 65536 + i.arg.toNat := by
  have h1 := i.arg.isLt
  have h2 := i.op.isLt
  simp [encode]
  rw [Nat.mod_eq_of_lt (by simp [Nat.shiftLeft_eq]; omega), Nat.mod_eq_of_lt (a := i.op.toNat) (by omega),
    Nat.mod_eq_of_lt (a := i.arg.toNat) (by omega), ← Nat.shiftLeft_add_eq_or_of_lt h1, Nat.shiftLeft_eq]

namespace Machine

@[simp] theorem hi8_toNat (x : Half) : (hi8 x).toNat = x.toNat / 256 := by
  have := x.isLt
  simp [hi8, Nat.shiftRight_eq_div_pow]
  omega

@[simp] theorem lo8_toNat (x : Half) : (lo8 x).toNat = x.toNat % 256 := by
  simp [lo8]

/-- The seven bytes summed are below 2^11. -/
theorem frameSum_le (f : Frame) : frameSum f ≤ 1785 := by
  have h1 := f.b1.isLt
  have h2 := f.b2.isLt
  have h3 := f.b3.isLt
  have h4 := f.b4.isLt
  have h5 := f.b5.isLt
  have h6 := f.b6.isLt
  have h7 := f.b7.isLt
  simp only [frameSum]
  omega

/-- Every command frame is well formed (30_encoding.md R115). -/
@[simp] theorem isCommandFrame_commandFrame (cmd d0 d1 : Byte) : isCommandFrame (commandFrame cmd d0 d1) = true := by
  simp [isCommandFrame, commandFrame, verify, checksum, frameSum]

@[simp] theorem commandFrame_b2 (cmd d0 d1 : Byte) : (commandFrame cmd d0 d1).b2 = cmd := rfl

@[simp] theorem commandFrame_b3 (cmd d0 d1 : Byte) : (commandFrame cmd d0 d1).b3 = d0 := rfl

@[simp] theorem commandFrame_b4 (cmd d0 d1 : Byte) : (commandFrame cmd d0 d1).b4 = d1 := rfl

/-- A byte received replaces the byte of the frame at its offset, and no other (42_transport_exchange.md R167). -/
theorem placeReceived_kept (f : Frame) (l : List Byte) (i : Fin 9) (h : l.length ≤ i.val) :
    frameByte (placeReceived f l) i = frameByte f i := by
  obtain ⟨i, hi⟩ := i
  simp only at h
  interval_cases i <;> simp [frameByte, placeReceived, List.getD, List.getElem?_eq_none h]

/-- Nine bytes received replace the whole frame. -/
theorem placeReceived_full (f g : Frame) (l : List Byte) (h : 9 ≤ l.length) : placeReceived f l = placeReceived g l := by
  have key : ∀ k, k < 9 → ∀ a b : Byte, l.getD k a = l.getD k b := by
    intro k hk a b
    rw [List.getD_eq_getElem _ _ (by omega), List.getD_eq_getElem _ _ (by omega)]
  simp only [placeReceived, Frame.mk.injEq]
  refine ⟨key 0 ?_ _ _, key 1 ?_ _ _, key 2 ?_ _ _, key 3 ?_ _ _, key 4 ?_ _ _, key 5 ?_ _ _, key 6 ?_ _ _,
    key 7 ?_ _ _, key 8 ?_ _ _⟩ <;> omega

/-- TEMP lies in -40 to 215 (43_response_validator.md R206). -/
theorem frameTemp_range (f : Frame) : -40 ≤ (frameTemp f).toInt ∧ (frameTemp f).toInt ≤ 215 := by
  have key : ∀ b : Byte,
      -40 ≤ ((b.zeroExtend 9 - tempOffset).signExtend 16).toInt ∧
        ((b.zeroExtend 9 - tempOffset).signExtend 16).toInt ≤ 215 := by decide
  exact key f.b4

end Machine

end Sys2Proof
end

