-- ==== Sys2Proof/Laws/PerInstr.lean ====
section
/-! SUPPORT. The family TableRow: each operation's host command word is a word of its row of spec/opcode_table.json, and its
ARG field is the operation's argument. -/

namespace Sys2Proof.Laws.TableRow

/-- The `mask` every row of spec/opcode_table.json has: OP, bits 18:16 (30_encoding.md R101). -/
def rowMask : Word := 0x00070000

/-- The `match` of the operation's row of spec/opcode_table.json. -/
def rowMatch : Instr → Word
  | .readCo2 _ => 0x00000000
  | .calZero _ => 0x00010000
  | .calSpan _ => 0x00020000
  | .setAbc _ => 0x00030000
  | .setRange _ => 0x00040000

/-- The word of an operation matches its row of the opcode table, and bits 15:0 are its argument (30_encoding.md R102). -/
def Statement (i : Instr) : Prop :=
  encode i &&& rowMask = rowMatch i ∧ wordArg (encode i) = i.arg

/-- The bits under the row's mask are the code and nothing else. -/
theorem masked_encode (i : Instr) : encode i &&& rowMask = i.op.zeroExtend 32 <<< 16 := by
  apply BitVec.eq_of_getLsbD_eq
  intro k hk
  interval_cases k <;> simp [encode, rowMask, BitVec.getLsbD_of_ge]

theorem readCo2 (arg : Half) : Statement (.readCo2 arg) :=
  ⟨masked_encode _, wordArg_encode _⟩

theorem calZero (arg : Half) : Statement (.calZero arg) :=
  ⟨masked_encode _, wordArg_encode _⟩

theorem calSpan (level : Half) : Statement (.calSpan level) :=
  ⟨masked_encode _, wordArg_encode _⟩

theorem setAbc (arg : Half) : Statement (.setAbc arg) :=
  ⟨masked_encode _, wordArg_encode _⟩

theorem setRange (range : Half) : Statement (.setRange range) :=
  ⟨masked_encode _, wordArg_encode _⟩

end Sys2Proof.Laws.TableRow
end

