-- ==== Sys2Proof/Laws/State.lean ====
section
/-! SUPPORT. What each update of the state does to each field: one lemma a field, true by rfl. -/

namespace Sys2Proof.Machine

@[simp] theorem State.advance_fsm (s : State) : s.advance.fsm = s.fsm := rfl
@[simp] theorem State.advance_buf (s : State) : s.advance.buf = s.buf := rfl
@[simp] theorem State.advance_opR (s : State) : s.advance.opR = s.opR := rfl
@[simp] theorem State.advance_argR (s : State) : s.advance.argR = s.argR := rfl
@[simp] theorem State.advance_wcount (s : State) : s.advance.wcount = s.wcount := rfl
@[simp] theorem State.advance_acount (s : State) : s.advance.acount = s.acount := rfl
@[simp] theorem State.advance_rcount (s : State) : s.advance.rcount = s.rcount := rfl
@[simp] theorem State.advance_pollCnt (s : State) : s.advance.pollCnt = s.pollCnt := rfl
@[simp] theorem State.advance_drainLeft (s : State) : s.advance.drainLeft = s.drainLeft := rfl
@[simp] theorem State.advance_err (s : State) : s.advance.err = s.err := rfl
@[simp] theorem State.advance_busy (s : State) : s.advance.busy = s.busy := rfl
@[simp] theorem State.advance_done (s : State) : s.advance.done = s.done := rfl
@[simp] theorem State.advance_status (s : State) : s.advance.status = s.status := rfl
@[simp] theorem State.advance_resValid (s : State) : s.advance.resValid = s.resValid := rfl
@[simp] theorem State.advance_ppm (s : State) : s.advance.ppm = s.ppm := rfl
@[simp] theorem State.advance_temp (s : State) : s.advance.temp = s.temp := rfl
@[simp] theorem State.advance_result (s : State) : s.advance.result = s.result := rfl
@[simp] theorem State.advance_ckComputed (s : State) : s.advance.ckComputed = s.ckComputed := rfl
@[simp] theorem State.advance_ckReceived (s : State) : s.advance.ckReceived = s.ckReceived := rfl
@[simp] theorem State.advance_cfg (s : State) : s.advance.cfg = s.cfg := rfl
@[simp] theorem State.advance_hung (s : State) : s.advance.hung = s.hung := rfl
@[simp] theorem State.advance_inputs (s : State) : s.advance.inputs = s.inputs.tail := rfl
@[simp] theorem State.advance_tick (s : State) : s.advance.tick = s.tick + 1 := rfl
@[simp] theorem State.advance_calls (s : State) : s.advance.calls = s.calls := rfl

@[simp] theorem State.goto_fsm (s : State) (f : Fsm) : (s.goto f).fsm = f := rfl
@[simp] theorem State.goto_buf (s : State) (f : Fsm) : (s.goto f).buf = s.buf := rfl
@[simp] theorem State.goto_opR (s : State) (f : Fsm) : (s.goto f).opR = s.opR := rfl
@[simp] theorem State.goto_argR (s : State) (f : Fsm) : (s.goto f).argR = s.argR := rfl
@[simp] theorem State.goto_wcount (s : State) (f : Fsm) : (s.goto f).wcount = s.wcount := rfl
@[simp] theorem State.goto_acount (s : State) (f : Fsm) : (s.goto f).acount = s.acount := rfl
@[simp] theorem State.goto_rcount (s : State) (f : Fsm) : (s.goto f).rcount = s.rcount := rfl
@[simp] theorem State.goto_pollCnt (s : State) (f : Fsm) : (s.goto f).pollCnt = s.pollCnt := rfl
@[simp] theorem State.goto_drainLeft (s : State) (f : Fsm) : (s.goto f).drainLeft = s.drainLeft := rfl
@[simp] theorem State.goto_err (s : State) (f : Fsm) : (s.goto f).err = s.err := rfl
@[simp] theorem State.goto_busy (s : State) (f : Fsm) : (s.goto f).busy = s.busy := rfl
@[simp] theorem State.goto_done (s : State) (f : Fsm) : (s.goto f).done = s.done := rfl
@[simp] theorem State.goto_status (s : State) (f : Fsm) : (s.goto f).status = s.status := rfl
@[simp] theorem State.goto_resValid (s : State) (f : Fsm) : (s.goto f).resValid = s.resValid := rfl
@[simp] theorem State.goto_ppm (s : State) (f : Fsm) : (s.goto f).ppm = s.ppm := rfl
@[simp] theorem State.goto_temp (s : State) (f : Fsm) : (s.goto f).temp = s.temp := rfl
@[simp] theorem State.goto_result (s : State) (f : Fsm) : (s.goto f).result = s.result := rfl
@[simp] theorem State.goto_ckComputed (s : State) (f : Fsm) : (s.goto f).ckComputed = s.ckComputed := rfl
@[simp] theorem State.goto_ckReceived (s : State) (f : Fsm) : (s.goto f).ckReceived = s.ckReceived := rfl
@[simp] theorem State.goto_cfg (s : State) (f : Fsm) : (s.goto f).cfg = s.cfg := rfl
@[simp] theorem State.goto_hung (s : State) (f : Fsm) : (s.goto f).hung = s.hung := rfl
@[simp] theorem State.goto_inputs (s : State) (f : Fsm) : (s.goto f).inputs = s.inputs := rfl
@[simp] theorem State.goto_tick (s : State) (f : Fsm) : (s.goto f).tick = s.tick := rfl
@[simp] theorem State.goto_calls (s : State) (f : Fsm) : (s.goto f).calls = s.calls := rfl

@[simp] theorem State.issue_fsm (s : State) (c : Call) : (s.issue c).fsm = s.fsm := rfl
@[simp] theorem State.issue_buf (s : State) (c : Call) : (s.issue c).buf = s.buf := rfl
@[simp] theorem State.issue_opR (s : State) (c : Call) : (s.issue c).opR = s.opR := rfl
@[simp] theorem State.issue_argR (s : State) (c : Call) : (s.issue c).argR = s.argR := rfl
@[simp] theorem State.issue_wcount (s : State) (c : Call) : (s.issue c).wcount = s.wcount := rfl
@[simp] theorem State.issue_acount (s : State) (c : Call) : (s.issue c).acount = s.acount := rfl
@[simp] theorem State.issue_rcount (s : State) (c : Call) : (s.issue c).rcount = s.rcount := rfl
@[simp] theorem State.issue_pollCnt (s : State) (c : Call) : (s.issue c).pollCnt = s.pollCnt := rfl
@[simp] theorem State.issue_drainLeft (s : State) (c : Call) : (s.issue c).drainLeft = s.drainLeft := rfl
@[simp] theorem State.issue_err (s : State) (c : Call) : (s.issue c).err = s.err := rfl
@[simp] theorem State.issue_busy (s : State) (c : Call) : (s.issue c).busy = s.busy := rfl
@[simp] theorem State.issue_done (s : State) (c : Call) : (s.issue c).done = s.done := rfl
@[simp] theorem State.issue_status (s : State) (c : Call) : (s.issue c).status = s.status := rfl
@[simp] theorem State.issue_resValid (s : State) (c : Call) : (s.issue c).resValid = s.resValid := rfl
@[simp] theorem State.issue_ppm (s : State) (c : Call) : (s.issue c).ppm = s.ppm := rfl
@[simp] theorem State.issue_temp (s : State) (c : Call) : (s.issue c).temp = s.temp := rfl
@[simp] theorem State.issue_result (s : State) (c : Call) : (s.issue c).result = s.result := rfl
@[simp] theorem State.issue_ckComputed (s : State) (c : Call) : (s.issue c).ckComputed = s.ckComputed := rfl
@[simp] theorem State.issue_ckReceived (s : State) (c : Call) : (s.issue c).ckReceived = s.ckReceived := rfl
@[simp] theorem State.issue_cfg (s : State) (c : Call) : (s.issue c).cfg = s.cfg := rfl
@[simp] theorem State.issue_hung (s : State) (c : Call) : (s.issue c).hung = s.hung := rfl
@[simp] theorem State.issue_inputs (s : State) (c : Call) : (s.issue c).inputs = s.inputs := rfl
@[simp] theorem State.issue_tick (s : State) (c : Call) : (s.issue c).tick = s.tick := rfl
@[simp] theorem State.issue_calls (s : State) (c : Call) : (s.issue c).calls = c :: s.calls := rfl

@[simp] theorem State.hang_fsm (s : State) : s.hang.fsm = s.fsm := rfl
@[simp] theorem State.hang_buf (s : State) : s.hang.buf = s.buf := rfl
@[simp] theorem State.hang_opR (s : State) : s.hang.opR = s.opR := rfl
@[simp] theorem State.hang_argR (s : State) : s.hang.argR = s.argR := rfl
@[simp] theorem State.hang_wcount (s : State) : s.hang.wcount = s.wcount := rfl
@[simp] theorem State.hang_acount (s : State) : s.hang.acount = s.acount := rfl
@[simp] theorem State.hang_rcount (s : State) : s.hang.rcount = s.rcount := rfl
@[simp] theorem State.hang_pollCnt (s : State) : s.hang.pollCnt = s.pollCnt := rfl
@[simp] theorem State.hang_drainLeft (s : State) : s.hang.drainLeft = s.drainLeft := rfl
@[simp] theorem State.hang_err (s : State) : s.hang.err = s.err := rfl
@[simp] theorem State.hang_busy (s : State) : s.hang.busy = s.busy := rfl
@[simp] theorem State.hang_done (s : State) : s.hang.done = s.done := rfl
@[simp] theorem State.hang_status (s : State) : s.hang.status = s.status := rfl
@[simp] theorem State.hang_resValid (s : State) : s.hang.resValid = s.resValid := rfl
@[simp] theorem State.hang_ppm (s : State) : s.hang.ppm = s.ppm := rfl
@[simp] theorem State.hang_temp (s : State) : s.hang.temp = s.temp := rfl
@[simp] theorem State.hang_result (s : State) : s.hang.result = s.result := rfl
@[simp] theorem State.hang_ckComputed (s : State) : s.hang.ckComputed = s.ckComputed := rfl
@[simp] theorem State.hang_ckReceived (s : State) : s.hang.ckReceived = s.ckReceived := rfl
@[simp] theorem State.hang_cfg (s : State) : s.hang.cfg = s.cfg := rfl
@[simp] theorem State.hang_hung (s : State) : s.hang.hung = true := rfl
@[simp] theorem State.hang_inputs (s : State) : s.hang.inputs = s.inputs := rfl
@[simp] theorem State.hang_tick (s : State) : s.hang.tick = s.tick := rfl
@[simp] theorem State.hang_calls (s : State) : s.hang.calls = s.calls := rfl

@[simp] theorem State.fail_fsm (s : State) (e : Failure) : (s.fail e).fsm = failureRoute s.cfg e := rfl
@[simp] theorem State.fail_buf (s : State) (e : Failure) : (s.fail e).buf = s.buf := rfl
@[simp] theorem State.fail_opR (s : State) (e : Failure) : (s.fail e).opR = s.opR := rfl
@[simp] theorem State.fail_argR (s : State) (e : Failure) : (s.fail e).argR = s.argR := rfl
@[simp] theorem State.fail_wcount (s : State) (e : Failure) : (s.fail e).wcount = s.wcount := rfl
@[simp] theorem State.fail_acount (s : State) (e : Failure) : (s.fail e).acount = s.acount := rfl
@[simp] theorem State.fail_rcount (s : State) (e : Failure) : (s.fail e).rcount = s.rcount := rfl
@[simp] theorem State.fail_pollCnt (s : State) (e : Failure) : (s.fail e).pollCnt = s.pollCnt := rfl
@[simp] theorem State.fail_drainLeft (s : State) (e : Failure) : (s.fail e).drainLeft = s.drainLeft := rfl
@[simp] theorem State.fail_err (s : State) (e : Failure) : (s.fail e).err = failureCode e := rfl
@[simp] theorem State.fail_busy (s : State) (e : Failure) : (s.fail e).busy = s.busy := rfl
@[simp] theorem State.fail_done (s : State) (e : Failure) : (s.fail e).done = s.done := rfl
@[simp] theorem State.fail_status (s : State) (e : Failure) : (s.fail e).status = s.status := rfl
@[simp] theorem State.fail_resValid (s : State) (e : Failure) : (s.fail e).resValid = s.resValid := rfl
@[simp] theorem State.fail_ppm (s : State) (e : Failure) : (s.fail e).ppm = s.ppm := rfl
@[simp] theorem State.fail_temp (s : State) (e : Failure) : (s.fail e).temp = s.temp := rfl
@[simp] theorem State.fail_result (s : State) (e : Failure) : (s.fail e).result = s.result := rfl
@[simp] theorem State.fail_ckComputed (s : State) (e : Failure) : (s.fail e).ckComputed = s.ckComputed := rfl
@[simp] theorem State.fail_ckReceived (s : State) (e : Failure) : (s.fail e).ckReceived = s.ckReceived := rfl
@[simp] theorem State.fail_cfg (s : State) (e : Failure) : (s.fail e).cfg = s.cfg := rfl
@[simp] theorem State.fail_hung (s : State) (e : Failure) : (s.fail e).hung = s.hung := rfl
@[simp] theorem State.fail_inputs (s : State) (e : Failure) : (s.fail e).inputs = s.inputs := rfl
@[simp] theorem State.fail_tick (s : State) (e : Failure) : (s.fail e).tick = s.tick := rfl
@[simp] theorem State.fail_calls (s : State) (e : Failure) : (s.fail e).calls = s.calls := rfl

@[simp] theorem State.complete_fsm (s : State) (op : BitVec 3) : (s.complete op).fsm = .idle := rfl
@[simp] theorem State.complete_buf (s : State) (op : BitVec 3) : (s.complete op).buf = s.buf := rfl
@[simp] theorem State.complete_opR (s : State) (op : BitVec 3) : (s.complete op).opR = s.opR := rfl
@[simp] theorem State.complete_argR (s : State) (op : BitVec 3) : (s.complete op).argR = s.argR := rfl
@[simp] theorem State.complete_wcount (s : State) (op : BitVec 3) : (s.complete op).wcount = s.wcount := rfl
@[simp] theorem State.complete_acount (s : State) (op : BitVec 3) : (s.complete op).acount = s.acount := rfl
@[simp] theorem State.complete_rcount (s : State) (op : BitVec 3) : (s.complete op).rcount = s.rcount := rfl
@[simp] theorem State.complete_pollCnt (s : State) (op : BitVec 3) : (s.complete op).pollCnt = s.pollCnt := rfl
@[simp] theorem State.complete_drainLeft (s : State) (op : BitVec 3) : (s.complete op).drainLeft = s.drainLeft := rfl
@[simp] theorem State.complete_err (s : State) (op : BitVec 3) : (s.complete op).err = s.err := rfl
@[simp] theorem State.complete_busy (s : State) (op : BitVec 3) : (s.complete op).busy = false := rfl
@[simp] theorem State.complete_done (s : State) (op : BitVec 3) : (s.complete op).done = true := rfl
@[simp] theorem State.complete_status (s : State) (op : BitVec 3) : (s.complete op).status = s.err := rfl
@[simp] theorem State.complete_resValid (s : State) (op : BitVec 3) : (s.complete op).resValid = s.resValid := rfl
@[simp] theorem State.complete_ppm (s : State) (op : BitVec 3) : (s.complete op).ppm = s.ppm := rfl
@[simp] theorem State.complete_temp (s : State) (op : BitVec 3) : (s.complete op).temp = s.temp := rfl
@[simp] theorem State.complete_result (s : State) (op : BitVec 3) : (s.complete op).result = resultOf op s.err s.ppm := rfl
@[simp] theorem State.complete_ckComputed (s : State) (op : BitVec 3) : (s.complete op).ckComputed = s.ckComputed := rfl
@[simp] theorem State.complete_ckReceived (s : State) (op : BitVec 3) : (s.complete op).ckReceived = s.ckReceived := rfl
@[simp] theorem State.complete_cfg (s : State) (op : BitVec 3) : (s.complete op).cfg = s.cfg := rfl
@[simp] theorem State.complete_hung (s : State) (op : BitVec 3) : (s.complete op).hung = s.hung := rfl
@[simp] theorem State.complete_inputs (s : State) (op : BitVec 3) : (s.complete op).inputs = s.inputs := rfl
@[simp] theorem State.complete_tick (s : State) (op : BitVec 3) : (s.complete op).tick = s.tick := rfl
@[simp] theorem State.complete_calls (s : State) (op : BitVec 3) : (s.complete op).calls = s.calls := rfl

@[simp] theorem State.accept_fsm (s : State) (op : BitVec 3) (arg : Half) : (s.accept op arg).fsm = .argchk := rfl
@[simp] theorem State.accept_buf (s : State) (op : BitVec 3) (arg : Half) : (s.accept op arg).buf = s.buf := rfl
@[simp] theorem State.accept_opR (s : State) (op : BitVec 3) (arg : Half) : (s.accept op arg).opR = op := rfl
@[simp] theorem State.accept_argR (s : State) (op : BitVec 3) (arg : Half) : (s.accept op arg).argR = arg := rfl
@[simp] theorem State.accept_wcount (s : State) (op : BitVec 3) (arg : Half) : (s.accept op arg).wcount = s.wcount := rfl
@[simp] theorem State.accept_acount (s : State) (op : BitVec 3) (arg : Half) : (s.accept op arg).acount = s.acount := rfl
@[simp] theorem State.accept_rcount (s : State) (op : BitVec 3) (arg : Half) : (s.accept op arg).rcount = s.rcount := rfl
@[simp] theorem State.accept_pollCnt (s : State) (op : BitVec 3) (arg : Half) : (s.accept op arg).pollCnt = s.pollCnt := rfl
@[simp] theorem State.accept_drainLeft (s : State) (op : BitVec 3) (arg : Half) : (s.accept op arg).drainLeft = s.drainLeft := rfl
@[simp] theorem State.accept_err (s : State) (op : BitVec 3) (arg : Half) : (s.accept op arg).err = codeOk := rfl
@[simp] theorem State.accept_busy (s : State) (op : BitVec 3) (arg : Half) : (s.accept op arg).busy = true := rfl
@[simp] theorem State.accept_done (s : State) (op : BitVec 3) (arg : Half) : (s.accept op arg).done = false := rfl
@[simp] theorem State.accept_status (s : State) (op : BitVec 3) (arg : Half) : (s.accept op arg).status = 0 := rfl
@[simp] theorem State.accept_resValid (s : State) (op : BitVec 3) (arg : Half) : (s.accept op arg).resValid = false := rfl
@[simp] theorem State.accept_ppm (s : State) (op : BitVec 3) (arg : Half) : (s.accept op arg).ppm = 0 := rfl
@[simp] theorem State.accept_temp (s : State) (op : BitVec 3) (arg : Half) : (s.accept op arg).temp = 0 := rfl
@[simp] theorem State.accept_result (s : State) (op : BitVec 3) (arg : Half) : (s.accept op arg).result = 0 := rfl
@[simp] theorem State.accept_ckComputed (s : State) (op : BitVec 3) (arg : Half) : (s.accept op arg).ckComputed = 0 := rfl
@[simp] theorem State.accept_ckReceived (s : State) (op : BitVec 3) (arg : Half) : (s.accept op arg).ckReceived = 0 := rfl
@[simp] theorem State.accept_cfg (s : State) (op : BitVec 3) (arg : Half) : (s.accept op arg).cfg = s.cfg := rfl
@[simp] theorem State.accept_hung (s : State) (op : BitVec 3) (arg : Half) : (s.accept op arg).hung = s.hung := rfl
@[simp] theorem State.accept_inputs (s : State) (op : BitVec 3) (arg : Half) : (s.accept op arg).inputs = s.inputs := rfl
@[simp] theorem State.accept_tick (s : State) (op : BitVec 3) (arg : Half) : (s.accept op arg).tick = s.tick := rfl
@[simp] theorem State.accept_calls (s : State) (op : BitVec 3) (arg : Half) : (s.accept op arg).calls = s.calls := rfl

@[simp] theorem State.build_fsm (s : State) (cmd d0 d1 : Byte) : (s.build cmd d0 d1).fsm = .txWrite := rfl
@[simp] theorem State.build_buf (s : State) (cmd d0 d1 : Byte) : (s.build cmd d0 d1).buf = commandFrame cmd d0 d1 := rfl
@[simp] theorem State.build_opR (s : State) (cmd d0 d1 : Byte) : (s.build cmd d0 d1).opR = s.opR := rfl
@[simp] theorem State.build_argR (s : State) (cmd d0 d1 : Byte) : (s.build cmd d0 d1).argR = s.argR := rfl
@[simp] theorem State.build_wcount (s : State) (cmd d0 d1 : Byte) : (s.build cmd d0 d1).wcount = s.wcount := rfl
@[simp] theorem State.build_acount (s : State) (cmd d0 d1 : Byte) : (s.build cmd d0 d1).acount = s.acount := rfl
@[simp] theorem State.build_rcount (s : State) (cmd d0 d1 : Byte) : (s.build cmd d0 d1).rcount = s.rcount := rfl
@[simp] theorem State.build_pollCnt (s : State) (cmd d0 d1 : Byte) : (s.build cmd d0 d1).pollCnt = s.pollCnt := rfl
@[simp] theorem State.build_drainLeft (s : State) (cmd d0 d1 : Byte) : (s.build cmd d0 d1).drainLeft = s.drainLeft := rfl
@[simp] theorem State.build_err (s : State) (cmd d0 d1 : Byte) : (s.build cmd d0 d1).err = s.err := rfl
@[simp] theorem State.build_busy (s : State) (cmd d0 d1 : Byte) : (s.build cmd d0 d1).busy = s.busy := rfl
@[simp] theorem State.build_done (s : State) (cmd d0 d1 : Byte) : (s.build cmd d0 d1).done = s.done := rfl
@[simp] theorem State.build_status (s : State) (cmd d0 d1 : Byte) : (s.build cmd d0 d1).status = s.status := rfl
@[simp] theorem State.build_resValid (s : State) (cmd d0 d1 : Byte) : (s.build cmd d0 d1).resValid = s.resValid := rfl
@[simp] theorem State.build_ppm (s : State) (cmd d0 d1 : Byte) : (s.build cmd d0 d1).ppm = s.ppm := rfl
@[simp] theorem State.build_temp (s : State) (cmd d0 d1 : Byte) : (s.build cmd d0 d1).temp = s.temp := rfl
@[simp] theorem State.build_result (s : State) (cmd d0 d1 : Byte) : (s.build cmd d0 d1).result = s.result := rfl
@[simp] theorem State.build_ckComputed (s : State) (cmd d0 d1 : Byte) : (s.build cmd d0 d1).ckComputed = s.ckComputed := rfl
@[simp] theorem State.build_ckReceived (s : State) (cmd d0 d1 : Byte) : (s.build cmd d0 d1).ckReceived = s.ckReceived := rfl
@[simp] theorem State.build_cfg (s : State) (cmd d0 d1 : Byte) : (s.build cmd d0 d1).cfg = s.cfg := rfl
@[simp] theorem State.build_hung (s : State) (cmd d0 d1 : Byte) : (s.build cmd d0 d1).hung = s.hung := rfl
@[simp] theorem State.build_inputs (s : State) (cmd d0 d1 : Byte) : (s.build cmd d0 d1).inputs = s.inputs := rfl
@[simp] theorem State.build_tick (s : State) (cmd d0 d1 : Byte) : (s.build cmd d0 d1).tick = s.tick := rfl
@[simp] theorem State.build_calls (s : State) (cmd d0 d1 : Byte) : (s.build cmd d0 d1).calls = s.calls := rfl

@[simp] theorem State.query_fsm (s : State) : s.query.fsm = s.fsm := rfl
@[simp] theorem State.query_buf (s : State) : s.query.buf = s.buf := rfl
@[simp] theorem State.query_opR (s : State) : s.query.opR = s.opR := rfl
@[simp] theorem State.query_argR (s : State) : s.query.argR = s.argR := rfl
@[simp] theorem State.query_wcount (s : State) : s.query.wcount = s.wcount := rfl
@[simp] theorem State.query_acount (s : State) : s.query.acount = s.input.available := rfl
@[simp] theorem State.query_rcount (s : State) : s.query.rcount = s.rcount := rfl
@[simp] theorem State.query_pollCnt (s : State) : s.query.pollCnt = s.pollCnt + 1 := rfl
@[simp] theorem State.query_drainLeft (s : State) : s.query.drainLeft = s.drainLeft := rfl
@[simp] theorem State.query_err (s : State) : s.query.err = s.err := rfl
@[simp] theorem State.query_busy (s : State) : s.query.busy = s.busy := rfl
@[simp] theorem State.query_done (s : State) : s.query.done = s.done := rfl
@[simp] theorem State.query_status (s : State) : s.query.status = s.status := rfl
@[simp] theorem State.query_resValid (s : State) : s.query.resValid = s.resValid := rfl
@[simp] theorem State.query_ppm (s : State) : s.query.ppm = s.ppm := rfl
@[simp] theorem State.query_temp (s : State) : s.query.temp = s.temp := rfl
@[simp] theorem State.query_result (s : State) : s.query.result = s.result := rfl
@[simp] theorem State.query_ckComputed (s : State) : s.query.ckComputed = s.ckComputed := rfl
@[simp] theorem State.query_ckReceived (s : State) : s.query.ckReceived = s.ckReceived := rfl
@[simp] theorem State.query_cfg (s : State) : s.query.cfg = s.cfg := rfl
@[simp] theorem State.query_hung (s : State) : s.query.hung = s.hung := rfl
@[simp] theorem State.query_inputs (s : State) : s.query.inputs = s.inputs := rfl
@[simp] theorem State.query_tick (s : State) : s.query.tick = s.tick := rfl
@[simp] theorem State.query_calls (s : State) : s.query.calls = .available :: s.calls := rfl

@[simp] theorem State.decodeReading_fsm (s : State) : s.decodeReading.fsm = .complete := rfl
@[simp] theorem State.decodeReading_buf (s : State) : s.decodeReading.buf = s.buf := rfl
@[simp] theorem State.decodeReading_opR (s : State) : s.decodeReading.opR = s.opR := rfl
@[simp] theorem State.decodeReading_argR (s : State) : s.decodeReading.argR = s.argR := rfl
@[simp] theorem State.decodeReading_wcount (s : State) : s.decodeReading.wcount = s.wcount := rfl
@[simp] theorem State.decodeReading_acount (s : State) : s.decodeReading.acount = s.acount := rfl
@[simp] theorem State.decodeReading_rcount (s : State) : s.decodeReading.rcount = s.rcount := rfl
@[simp] theorem State.decodeReading_pollCnt (s : State) : s.decodeReading.pollCnt = s.pollCnt := rfl
@[simp] theorem State.decodeReading_drainLeft (s : State) : s.decodeReading.drainLeft = s.drainLeft := rfl
@[simp] theorem State.decodeReading_err (s : State) : s.decodeReading.err = s.err := rfl
@[simp] theorem State.decodeReading_busy (s : State) : s.decodeReading.busy = s.busy := rfl
@[simp] theorem State.decodeReading_done (s : State) : s.decodeReading.done = s.done := rfl
@[simp] theorem State.decodeReading_status (s : State) : s.decodeReading.status = s.status := rfl
@[simp] theorem State.decodeReading_resValid (s : State) : s.decodeReading.resValid = true := rfl
@[simp] theorem State.decodeReading_ppm (s : State) : s.decodeReading.ppm = framePpm s.buf := rfl
@[simp] theorem State.decodeReading_temp (s : State) : s.decodeReading.temp = frameTemp s.buf := rfl
@[simp] theorem State.decodeReading_result (s : State) : s.decodeReading.result = s.result := rfl
@[simp] theorem State.decodeReading_ckComputed (s : State) : s.decodeReading.ckComputed = s.ckComputed := rfl
@[simp] theorem State.decodeReading_ckReceived (s : State) : s.decodeReading.ckReceived = s.ckReceived := rfl
@[simp] theorem State.decodeReading_cfg (s : State) : s.decodeReading.cfg = s.cfg := rfl
@[simp] theorem State.decodeReading_hung (s : State) : s.decodeReading.hung = s.hung := rfl
@[simp] theorem State.decodeReading_inputs (s : State) : s.decodeReading.inputs = s.inputs := rfl
@[simp] theorem State.decodeReading_tick (s : State) : s.decodeReading.tick = s.tick := rfl
@[simp] theorem State.decodeReading_calls (s : State) : s.decodeReading.calls = s.calls := rfl

@[simp] theorem State.after_fsm (s : State) (made : List Call) : (s.after made).fsm = s.fsm := rfl
@[simp] theorem State.after_buf (s : State) (made : List Call) : (s.after made).buf = s.buf := rfl
@[simp] theorem State.after_opR (s : State) (made : List Call) : (s.after made).opR = s.opR := rfl
@[simp] theorem State.after_argR (s : State) (made : List Call) : (s.after made).argR = s.argR := rfl
@[simp] theorem State.after_wcount (s : State) (made : List Call) : (s.after made).wcount = s.wcount := rfl
@[simp] theorem State.after_acount (s : State) (made : List Call) : (s.after made).acount = s.acount := rfl
@[simp] theorem State.after_rcount (s : State) (made : List Call) : (s.after made).rcount = s.rcount := rfl
@[simp] theorem State.after_pollCnt (s : State) (made : List Call) : (s.after made).pollCnt = s.pollCnt := rfl
@[simp] theorem State.after_drainLeft (s : State) (made : List Call) : (s.after made).drainLeft = s.drainLeft := rfl
@[simp] theorem State.after_err (s : State) (made : List Call) : (s.after made).err = s.err := rfl
@[simp] theorem State.after_busy (s : State) (made : List Call) : (s.after made).busy = s.busy := rfl
@[simp] theorem State.after_done (s : State) (made : List Call) : (s.after made).done = s.done := rfl
@[simp] theorem State.after_status (s : State) (made : List Call) : (s.after made).status = s.status := rfl
@[simp] theorem State.after_resValid (s : State) (made : List Call) : (s.after made).resValid = s.resValid := rfl
@[simp] theorem State.after_ppm (s : State) (made : List Call) : (s.after made).ppm = s.ppm := rfl
@[simp] theorem State.after_temp (s : State) (made : List Call) : (s.after made).temp = s.temp := rfl
@[simp] theorem State.after_result (s : State) (made : List Call) : (s.after made).result = s.result := rfl
@[simp] theorem State.after_ckComputed (s : State) (made : List Call) : (s.after made).ckComputed = s.ckComputed := rfl
@[simp] theorem State.after_ckReceived (s : State) (made : List Call) : (s.after made).ckReceived = s.ckReceived := rfl
@[simp] theorem State.after_cfg (s : State) (made : List Call) : (s.after made).cfg = s.cfg := rfl
@[simp] theorem State.after_hung (s : State) (made : List Call) : (s.after made).hung = s.hung := rfl
@[simp] theorem State.after_inputs (s : State) (made : List Call) : (s.after made).inputs = s.inputs.tail := rfl
@[simp] theorem State.after_tick (s : State) (made : List Call) : (s.after made).tick = s.tick + 1 := rfl
@[simp] theorem State.after_calls (s : State) (made : List Call) : (s.after made).calls = made ++ s.calls := rfl

@[simp] theorem State.assertReset_fsm (s : State) : s.assertReset.fsm = State.reset.fsm := rfl
@[simp] theorem State.assertReset_buf (s : State) : s.assertReset.buf = State.reset.buf := rfl
@[simp] theorem State.assertReset_opR (s : State) : s.assertReset.opR = State.reset.opR := rfl
@[simp] theorem State.assertReset_argR (s : State) : s.assertReset.argR = State.reset.argR := rfl
@[simp] theorem State.assertReset_wcount (s : State) : s.assertReset.wcount = State.reset.wcount := rfl
@[simp] theorem State.assertReset_acount (s : State) : s.assertReset.acount = State.reset.acount := rfl
@[simp] theorem State.assertReset_rcount (s : State) : s.assertReset.rcount = State.reset.rcount := rfl
@[simp] theorem State.assertReset_pollCnt (s : State) : s.assertReset.pollCnt = State.reset.pollCnt := rfl
@[simp] theorem State.assertReset_drainLeft (s : State) : s.assertReset.drainLeft = State.reset.drainLeft := rfl
@[simp] theorem State.assertReset_err (s : State) : s.assertReset.err = State.reset.err := rfl
@[simp] theorem State.assertReset_busy (s : State) : s.assertReset.busy = State.reset.busy := rfl
@[simp] theorem State.assertReset_done (s : State) : s.assertReset.done = State.reset.done := rfl
@[simp] theorem State.assertReset_status (s : State) : s.assertReset.status = State.reset.status := rfl
@[simp] theorem State.assertReset_resValid (s : State) : s.assertReset.resValid = State.reset.resValid := rfl
@[simp] theorem State.assertReset_ppm (s : State) : s.assertReset.ppm = State.reset.ppm := rfl
@[simp] theorem State.assertReset_temp (s : State) : s.assertReset.temp = State.reset.temp := rfl
@[simp] theorem State.assertReset_result (s : State) : s.assertReset.result = State.reset.result := rfl
@[simp] theorem State.assertReset_ckComputed (s : State) : s.assertReset.ckComputed = State.reset.ckComputed := rfl
@[simp] theorem State.assertReset_ckReceived (s : State) : s.assertReset.ckReceived = State.reset.ckReceived := rfl
@[simp] theorem State.assertReset_cfg (s : State) : s.assertReset.cfg = s.cfg := rfl
@[simp] theorem State.assertReset_hung (s : State) : s.assertReset.hung = s.hung := rfl
@[simp] theorem State.assertReset_inputs (s : State) : s.assertReset.inputs = s.inputs := rfl
@[simp] theorem State.assertReset_tick (s : State) : s.assertReset.tick = s.tick := rfl
@[simp] theorem State.assertReset_calls (s : State) : s.assertReset.calls = s.calls := rfl

end Sys2Proof.Machine
end

