-- ==== Sys2Proof/Laws/Step.lean ====
section
/-! SUPPORT. What each shared operation and one step can do, said once: the lemmas later proofs cite instead of unfolding. -/

namespace Sys2Proof.Machine

/-- What the operation named by an instruction supplies to its steps. -/
def operationOf (c : Config) : Instr → Operation
  | .readCo2 a => { op := 0, arg := a, legal := true, cmd := cmdRead, d0 := 0x00, d1 := 0x00 }
  | .calZero a => { op := 1, arg := a, legal := true, cmd := c.cmdZero, d0 := 0x00, d1 := 0x00 }
  | .calSpan a => { op := 2, arg := a, legal := spanLegal a, cmd := c.cmdSpan, d0 := hi8 a, d1 := lo8 a }
  | .setAbc a => { op := 3, arg := a, legal := true, cmd := c.cmdAbc, d0 := abcD0 a, d1 := 0x00 }
  | .setRange a => { op := 4, arg := a, legal := rangeLegal a, cmd := c.cmdRange, d0 := hi8 a, d1 := lo8 a }

/-- Every meaning is one engine step of its operation, and so answers a next state. -/
theorem exec_eq (i : Instr) (s : State) : exec i s = .next (s.transition (operationOf s.cfg i)).advance := by
  cases i <;> rfl

@[simp] theorem operationOf_op (c : Config) (i : Instr) : (operationOf c i).op = i.op := by cases i <;> rfl

@[simp] theorem operationOf_arg (c : Config) (i : Instr) : (operationOf c i).arg = i.arg := by cases i <;> rfl

/-- ARGCHK's test is the legality of 30_encoding.md R102. -/
@[simp] theorem operationOf_legal (c : Config) (i : Instr) : (operationOf c i).legal = i.wellFormed := by
  cases i with
  | setRange a => simp [operationOf, Instr.wellFormed, rangeLegal, rangeSet]
  | _ => rfl

/-- BUILD's frame is the operation's command frame. -/
theorem commandFrame_operationOf (c : Config) (i : Instr) :
    commandFrame (operationOf c i).cmd (operationOf c i).d0 (operationOf c i).d1 = encodeFrame c i := by
  cases i <;> rfl

/-- The input of a step whose inputs are listed. -/
theorem State.input_cons {s : State} {x : Input} {rest : List Input} (h : s.inputs = x :: rest) : s.input = x := by
  simp [State.input, h]

/-- Everything the host's configuration move can do. -/
theorem configure_cases {s s1 : State} (h : s.configure = .ok s1) :
    (s.input.config = none ∧ s1 = s) ∨
      ∃ c, s.input.config = some c ∧ s.busy = false ∧ c.pollMax ≠ 0 ∧ s1 = { s with cfg := c } := by
  unfold State.configure at h
  split at h
  · next hc => exact .inl ⟨hc, by simpa using h.symm⟩
  · next c hc =>
    split at h
    · cases h
    · split at h
      · cases h
      · next hb hp => exact .inr ⟨c, hc, by simpa using hb, hp, by simpa using h.symm⟩

theorem configure_none {s : State} (h : s.input.config = none) : s.configure = .ok s := by
  simp [State.configure, h]

/-- The fields an OP and an ARG decode to are those of the operation. -/
theorem decodeFields_ok {op : BitVec 3} {a : Half} {i : Instr} (h : decodeFields op a = .ok i) :
    i.op = op ∧ i.arg = a := by
  unfold decodeFields at h
  split at h
  all_goals first
    | cases h; done
    | cases h
      refine ⟨?_, rfl⟩
      next hn => exact (BitVec.eq_of_toNat_eq (by simpa [Instr.op] using hn)).symm

/-- The reserved codes are exactly 5, 6 and 7. -/
theorem decodeFields_error {op : BitVec 3} {a : Half} {e : DecodeReject} (h : decodeFields op a = .error e) :
    5 ≤ op.toNat := by
  by_contra hlt
  obtain h0 | h0 | h0 | h0 | h0 : op.toNat = 0 ∨ op.toNat = 1 ∨ op.toNat = 2 ∨ op.toNat = 3 ∨ op.toNat = 4 := by omega
  all_goals simp [decodeFields, h0] at h

/-- What a step does once the configuration is settled, in one expression. -/
def stepOn (s : State) : Host.Outcome State Fault Refusal :=
  if s.hung then .next s.advance
  else if s.input.rst then .next s.assertReset.advance
  else if s.fsm = .idle then
    if s.input.start then .next (s.accept (wordOp s.input.cmdWord) (wordArg s.input.cmdWord)).advance
    else .next s.advance
  else
    match decodeFields s.opR s.argR with
    | .ok i => .next (s.transition (operationOf s.cfg i)).advance
    | .error _ => runReserved s.opR s.argR s

/-- A step is the host's configuration move, then `stepOn`. -/
theorem step_eq (s : State) :
    step s = match s.configure with
      | .error r => .refused r
      | .ok s1 => stepOn s1 := by
  unfold step State.turn
  cases hc : s.configure with
  | error r => rfl
  | ok s1 =>
    simp only [State.pinTurn, stepOn, turnOf]
    by_cases hh : s1.hung = true
    · simp [hh]
    by_cases hr : s1.input.rst = true
    · simp [hh, hr]
    by_cases hi : s1.fsm = .idle
    · by_cases hs : s1.input.start = true
      · cases hd : decodeFields (wordOp s1.input.cmdWord) (wordArg s1.input.cmdWord) with
        | error e => simp [hh, hr, hi, hs, runReserved]
        | ok i => simp [hh, hr, hi, hs, exec_eq, State.transition, decodeFields_ok hd]
      · simp [hh, hr, hi, hs]
    · cases hd : decodeFields s1.opR s1.argR with
      | error e => simp [hh, hr, hi]
      | ok i => simp [hh, hr, hi, exec_eq]

/-- Everything one step can do, after the host's configuration move gave `s1`: hang on, be reset, wait, accept START, or
make the step its FSM state names, for the operation in progress or for a reserved one. -/
inductive StepCase (s1 t : State) : Prop where
  | hanging (hung : s1.hung = true) (eq : t = s1.advance)
  | reset (hung : s1.hung = false) (rst : s1.input.rst = true) (eq : t = s1.assertReset.advance)
  | waiting (hung : s1.hung = false) (rst : s1.input.rst = false) (idle : s1.fsm = .idle) (start : s1.input.start = false)
      (eq : t = s1.advance)
  | accepted (hung : s1.hung = false) (rst : s1.input.rst = false) (idle : s1.fsm = .idle) (start : s1.input.start = true)
      (eq : t = (s1.accept (wordOp s1.input.cmdWord) (wordArg s1.input.cmdWord)).advance)
  | running (i : Instr) (hung : s1.hung = false) (rst : s1.input.rst = false) (busy : s1.fsm ≠ .idle)
      (dec : decodeFields s1.opR s1.argR = .ok i) (eq : t = (s1.transition (operationOf s1.cfg i)).advance)
  | rejected (hung : s1.hung = false) (rst : s1.input.rst = false) (argchk : s1.fsm = .argchk) (res : 5 ≤ s1.opR.toNat)
      (eq : t = (s1.fail .invalidArgument).advance)
  | reservedDone (hung : s1.hung = false) (rst : s1.input.rst = false) (complete : s1.fsm = .complete)
      (res : 5 ≤ s1.opR.toNat) (eq : t = (s1.complete s1.opR).advance)

/-- The inversion lemma of `step`. -/
theorem step_cases {s t : State} (h : step s = .next t) : ∃ s1, s.configure = .ok s1 ∧ StepCase s1 t := by
  rw [step_eq] at h
  cases hc : s.configure with
  | error r => simp [hc] at h
  | ok s1 =>
    refine ⟨s1, rfl, ?_⟩
    simp only [hc, stepOn] at h
    by_cases hh : s1.hung = true
    · simp only [hh, if_true, Host.Outcome.next.injEq] at h
      exact .hanging hh h.symm
    rw [Bool.not_eq_true] at hh
    simp only [hh, Bool.false_eq_true, if_false] at h
    by_cases hr : s1.input.rst = true
    · simp only [hr, if_true, Host.Outcome.next.injEq] at h
      exact .reset hh hr h.symm
    rw [Bool.not_eq_true] at hr
    simp only [hr, Bool.false_eq_true, if_false] at h
    by_cases hi : s1.fsm = .idle
    · by_cases hs : s1.input.start = true
      · simp only [hi, hs, if_true, Host.Outcome.next.injEq] at h
        exact .accepted hh hr hi hs h.symm
      · rw [Bool.not_eq_true] at hs
        simp only [hi, hs, if_true, Bool.false_eq_true, if_false, Host.Outcome.next.injEq] at h
        exact .waiting hh hr hi hs h.symm
    · simp only [hi, if_false] at h
      cases hd : decodeFields s1.opR s1.argR with
      | ok i =>
        simp only [hd, Host.Outcome.next.injEq] at h
        exact .running i hh hr hi hd h.symm
      | error e =>
        have h5 := decodeFields_error hd
        simp only [hd, runReserved] at h
        cases hf : s1.fsm <;> simp [hf] at h
        · exact absurd hf hi
        · exact .rejected hh hr hf h5 (by simpa [State.argchk] using h.symm)
        · exact .reservedDone hh hr hf h5 h.symm

/-- The inversion lemma of a step in which the host sets no configuration. -/
theorem step_cases_of_none {s t : State} (hc : s.input.config = none) (h : step s = .next t) : StepCase s t := by
  obtain ⟨s1, h1, h2⟩ := step_cases h
  rw [configure_none hc] at h1
  cases h1
  exact h2

/-- The inversion lemma of a step, with the configuration in force named. -/
theorem step_cases_config {s t : State} (h : step s = .next t) :
    ∃ c : Config, (c = s.cfg ∨ (s.busy = false ∧ s.input.config = some c ∧ c.pollMax ≠ 0)) ∧
      StepCase { s with cfg := c } t := by
  obtain ⟨s1, h1, h2⟩ := step_cases h
  obtain ⟨-, rfl⟩ | ⟨c, hi, hb, hp, rfl⟩ := configure_cases h1
  · exact ⟨_, .inl rfl, h2⟩
  · exact ⟨c, .inr ⟨hb, hi, hp⟩, h2⟩

/-- The configuration does not decide what the outside world supplies. -/
@[simp] theorem State.input_with_cfg (s : State) (c : Config) : State.input { s with cfg := c } = s.input := rfl

/-- A step of the operation in progress, forwards. -/
theorem step_running {s : State} {i : Instr} (hung : s.hung = false) (rst : s.input.rst = false)
    (cfg : s.input.config = none) (busy : s.fsm ≠ .idle) (dec : decodeFields s.opR s.argR = .ok i) :
    step s = .next (s.transition (operationOf s.cfg i)).advance := by
  simp [step_eq, configure_none cfg, stepOn, hung, rst, busy, dec]

/-- START acceptance, forwards. -/
theorem step_accepts {s : State} (hung : s.hung = false) (rst : s.input.rst = false)
    (cfg : s.input.config = none) (idle : s.fsm = .idle) (start : s.input.start = true) :
    step s = .next (s.accept (wordOp s.input.cmdWord) (wordArg s.input.cmdWord)).advance := by
  simp [step_eq, configure_none cfg, stepOn, hung, rst, idle, start]

/-- An OP of 0 to 4 names an operation. -/
theorem decodeFields_of_le {op : BitVec 3} (a : Half) (h : op.toNat ≤ 4) : ∃ i, decodeFields op a = .ok i := by
  cases hd : decodeFields op a with
  | ok i => exact ⟨i, rfl⟩
  | error e => have := decodeFields_error hd; omega

/-- The latched pair of an operation names it. -/
theorem decodeFields_latched {s : State} {i : Instr} (op : s.opR = i.op) (arg : s.argR = i.arg) :
    decodeFields s.opR s.argR = .ok i := by
  rw [op, arg]
  cases i <;> rfl

/-- A run of one step and more. -/
theorem run_succ {s t : State} (k : Nat) (h : step s = .next t) : s.run (k + 1) = t.run k := by
  show Host.Core.run Sys2Proof.core (k + 1) s = Host.Core.run Sys2Proof.core k t
  have h' : Sys2Proof.core.step s = .next t := h
  simp only [Host.Core.run, h']

/-- A run whose first step is one of the operation in progress, with no disturbance. -/
theorem run_running {s : State} {x : Input} {rest : List Input} {i : Instr} (k : Nat) (inputs : s.inputs = x :: rest)
    (q : quiet x) (hung : s.hung = false) (busy : s.fsm ≠ .idle) (dec : decodeFields s.opR s.argR = .ok i) :
    s.run (k + 1) = (s.transition (operationOf s.cfg i)).advance.run k := by
  have hx := State.input_cons inputs
  exact run_succ k (step_running hung (by rw [hx]; exact q.1) (by rw [hx]; exact q.2.1) busy dec)

@[simp] theorem run_zero (s : State) : s.run 0 = .next s := rfl

end Sys2Proof.Machine
end

