-- ==== Sys2Proof/Laws/Transition.lean ====
section
/-! SUPPORT. Everything one engine step of an operation can do, said once: `transition_cases` is the inversion lemma of
`State.transition`, with each new state written out. -/

namespace Sys2Proof.Machine

/-- The outcomes of one engine step of the operation `d`, in the order an operation meets them. Each names the FSM state it
starts in, its guard, and the state it leaves, before the step's input is used up. -/
inductive TransitionCase (s : State) (d : Operation) (t : State) : Prop where
  | accepted (at_ : s.fsm = .idle) (eq : t = s.accept d.op d.arg)
  | argumentLegal (at_ : s.fsm = .argchk) (legal : d.legal = true) (eq : t = { s with fsm := .build })
  | argumentIllegal (at_ : s.fsm = .argchk) (legal : d.legal = false) (eq : t = { s with err := 1, fsm := .complete })
  | built (at_ : s.fsm = .build) (eq : t = { s with buf := commandFrame d.cmd d.d0 d.d1, fsm := .txWrite })
  | blocked (c : Call) (at_ : s.fsm.mayHang = true) (call : s.nextCall = some c) (ret : s.input.returns = false)
      (eq : t = { s with calls := c :: s.calls, hung := true })
  | sent (at_ : s.fsm = .txWrite) (ret : s.input.returns = true)
      (eq : t = { s with wcount := s.input.written, fsm := .txFlush, calls := .write (frameBytes s.buf) :: s.calls })
  | shortWrite (at_ : s.fsm = .txFlush) (ret : s.input.returns = true) (count : s.wcount < 9)
      (eq : t = { s with err := 2, fsm := .cfFlush, calls := .flush :: s.calls })
  | fullWrite (at_ : s.fsm = .txFlush) (ret : s.input.returns = true) (count : 9 ≤ s.wcount)
      (eq : t = { s with pollCnt := 0, fsm := .pollQ, calls := .flush :: s.calls })
  | pollData (at_ : s.fsm = .pollQ) (count : 0 < s.input.available)
      (eq : t = { s with
        acount := s.input.available, pollCnt := s.pollCnt + 1, fsm := .availCheck, calls := .available :: s.calls })
  | pollBound (at_ : s.fsm = .pollQ) (count : s.input.available = 0) (bound : s.pollCnt + 1 = s.cfg.pollMax)
      (eq : t = { s with
        acount := 0, pollCnt := s.pollCnt + 1, err := 3, fsm := .cfFlush, calls := .available :: s.calls })
  | pollMore (at_ : s.fsm = .pollQ) (count : s.input.available = 0) (bound : s.pollCnt + 1 ≠ s.cfg.pollMax)
      (eq : t = { s with acount := 0, pollCnt := s.pollCnt + 1, fsm := .pollSleep, calls := .available :: s.calls })
  | pollSlept (at_ : s.fsm = .pollSleep) (eq : t = { s with fsm := .pollQ, calls := .sleep s.cfg.pollDelay :: s.calls })
  | countNine (at_ : s.fsm = .availCheck) (count : s.acount = 9) (eq : t = { s with fsm := .rxRead })
  | countOther (at_ : s.fsm = .availCheck) (count : s.acount ≠ 9) (eq : t = { s with err := 4, fsm := .cfFlush })
  | shortRead (at_ : s.fsm = .rxRead) (ret : s.input.returns = true) (count : s.input.received.length < 9)
      (eq : t = { s with
        rcount := s.input.received.length, buf := placeReceived s.buf s.input.received, err := 5, fsm := .cfFlush,
        calls := .readBytes 9 :: s.calls })
  | fullRead (at_ : s.fsm = .rxRead) (ret : s.input.returns = true) (count : 9 ≤ s.input.received.length)
      (eq : t = { s with
        rcount := 9, buf := placeReceived s.buf s.input.received, fsm := if d.op = 0 then .validate else .complete,
        calls := .readBytes 9 :: s.calls })
  | badHeader (at_ : s.fsm = .validate) (header : s.buf.b0 ≠ 0xFF)
      (eq : t = { s with err := 6, fsm := if s.cfg.flushOnValidationFail then .cfFlush else .complete })
  | badChecksum (at_ : s.fsm = .validate) (header : s.buf.b0 = 0xFF) (ck : checksum s.buf ≠ s.buf.b8)
      (eq : t = { s with
        ckComputed := checksum s.buf, ckReceived := s.buf.b8, err := 7,
        fsm := if s.cfg.flushOnValidationFail then .cfFlush else .complete })
  | badEcho (at_ : s.fsm = .validate) (header : s.buf.b0 = 0xFF) (ck : checksum s.buf = s.buf.b8)
      (echo : s.cfg.echoCheck = true ∧ s.buf.b1 ≠ d.cmd)
      (eq : t = { s with
        ckComputed := checksum s.buf, ckReceived := s.buf.b8, err := 8,
        fsm := if s.cfg.flushOnValidationFail then .cfFlush else .complete })
  | validated (at_ : s.fsm = .validate) (header : s.buf.b0 = 0xFF) (ck : checksum s.buf = s.buf.b8)
      (echo : s.cfg.echoCheck = true → s.buf.b1 = d.cmd)
      (eq : t = { s with ckComputed := checksum s.buf, ckReceived := s.buf.b8, fsm := .decode })
  | decoded (at_ : s.fsm = .decode)
      (eq : t = { s with ppm := framePpm s.buf, temp := frameTemp s.buf, resValid := true, fsm := .complete })
  | flushed (at_ : s.fsm = .cfFlush) (ret : s.input.returns = true)
      (eq : t = { s with pollCnt := 0, fsm := .cfPollQ, calls := .flush :: s.calls })
  | settled (at_ : s.fsm = .cfPollQ) (done : 0 < s.input.available ∨ s.pollCnt + 1 = s.cfg.pollMax)
      (eq : t = { s with
        acount := s.input.available, pollCnt := s.pollCnt + 1, drainLeft := s.input.available, fsm := .cfDrain,
        calls := .available :: s.calls })
  | settleMore (at_ : s.fsm = .cfPollQ) (count : s.input.available = 0) (bound : s.pollCnt + 1 ≠ s.cfg.pollMax)
      (eq : t = { s with acount := 0, pollCnt := s.pollCnt + 1, fsm := .cfPollSleep, calls := .available :: s.calls })
  | settleSlept (at_ : s.fsm = .cfPollSleep)
      (eq : t = { s with fsm := .cfPollQ, calls := .sleep s.cfg.pollDelay :: s.calls })
  | drainDone (at_ : s.fsm = .cfDrain) (left : s.drainLeft = 0) (eq : t = { s with fsm := .complete })
  | drainEmpty (at_ : s.fsm = .cfDrain) (left : s.drainLeft ≠ 0) (ret : s.input.returns = true)
      (byte : s.input.drained = none) (eq : t = { s with fsm := .complete, calls := .read :: s.calls })
  | drainByte (b : Byte) (at_ : s.fsm = .cfDrain) (left : s.drainLeft ≠ 0) (ret : s.input.returns = true)
      (byte : s.input.drained = some b) (eq : t = { s with drainLeft := s.drainLeft - 1, calls := .read :: s.calls })
  | completed (at_ : s.fsm = .complete)
      (eq : t = { s with
        status := s.err, result := resultOf d.op s.err s.ppm, busy := false, done := true, fsm := .idle })

/-- The inversion lemma of `State.transition`. -/
theorem transition_cases (s : State) (d : Operation) : TransitionCase s d (s.transition d) := by
  cases hf : s.fsm <;> simp only [State.transition, hf]
  case idle => exact .accepted hf rfl
  case argchk =>
    unfold State.argchk
    split
    · next h => exact .argumentLegal hf h rfl
    · next h => exact .argumentIllegal hf (by simpa using h) rfl
  case build => exact .built hf rfl
  case txWrite =>
    unfold State.txWrite
    split
    · next h => exact .sent hf h rfl
    · next h => exact .blocked _ (by rw [hf]; rfl) (by simp only [State.nextCall, hf]) (by simpa using h) rfl
  case txFlush =>
    unfold State.txFlush
    split
    · next h =>
      split
      · next hw => exact .shortWrite hf h hw rfl
      · next hw => exact .fullWrite hf h (by simpa [frameLen] using hw) rfl
    · next h => exact .blocked _ (by rw [hf]; rfl) (by simp only [State.nextCall, hf]) (by simpa using h) rfl
  case pollQ =>
    simp only [State.pollQ]
    split
    · next h => exact .pollData hf h rfl
    · next h =>
      have h0 : s.input.available = 0 := by simpa [State.query] using h
      split
      · next hb => exact .pollBound hf h0 hb (by simp [State.query, State.fail, State.issue, h0]; exact ⟨rfl, rfl⟩)
      · next hb => exact .pollMore hf h0 hb (by simp [State.query, State.goto, State.issue, h0])
  case pollSleep => exact .pollSlept hf rfl
  case availCheck =>
    unfold State.availCheck
    split
    · next h => exact .countNine hf h rfl
    · next h => exact .countOther hf h rfl
  case rxRead =>
    unfold State.rxRead
    split
    · next h =>
      by_cases hl : s.input.received.length < 9
      · rw [if_pos (by simp [keptCount, frameLen]; omega)]
        refine .shortRead hf h hl ?_
        simp [State.fail, State.issue, keptCount, frameLen, failureCode, failureRoute, failureGroup]
        omega
      · rw [if_neg (by simp [keptCount, frameLen]; omega)]
        refine .fullRead hf h (by omega) ?_
        have : min s.input.received.length 9 = 9 := by omega
        split <;> simp [State.goto, State.issue, keptCount, frameLen, this]
    · next h => exact .blocked _ (by rw [hf]; rfl) (by simp only [State.nextCall, hf, frameLen]) (by simpa using h) rfl
  case validate =>
    simp only [State.validate]
    split
    · next h => exact .badHeader hf h rfl
    · next h =>
      have hh : s.buf.b0 = 0xFF := by simpa [hdr] using h
      split
      · next hc => exact .badChecksum hf hh hc rfl
      · next hc =>
        have hk : checksum s.buf = s.buf.b8 := by simpa using hc
        split
        · next he => exact .badEcho hf hh hk he rfl
        · next he => exact .validated hf hh hk (fun h1 => by_contra fun h2 => he ⟨h1, h2⟩) rfl
  case decode => exact .decoded hf rfl
  case cfFlush =>
    unfold State.cfFlush
    split
    · next h => exact .flushed hf h rfl
    · next h => exact .blocked _ (by rw [hf]; rfl) (by simp only [State.nextCall, hf]) (by simpa using h) rfl
  case cfPollQ =>
    simp only [State.cfPollQ]
    split
    · next h => exact .settled hf h rfl
    · next h =>
      have h0 : s.input.available = 0 ∧ s.pollCnt + 1 ≠ s.cfg.pollMax := by simpa [State.query, State.issue] using h
      exact .settleMore hf h0.1 h0.2 (by simp [State.query, State.goto, State.issue, h0.1])
  case cfPollSleep => exact .settleSlept hf rfl
  case cfDrain =>
    unfold State.cfDrain
    split
    · next h => exact .drainDone hf h rfl
    · next hl =>
      split
      · next h =>
        split
        · next hb => exact .drainEmpty hf hl h hb rfl
        · next b hb => exact .drainByte b hf hl h hb rfl
      · next h => exact .blocked _ (by rw [hf]; rfl) (by simp only [State.nextCall, hf, hl]; rfl) (by simpa using h) rfl
  case complete => exact .completed hf rfl

end Sys2Proof.Machine
end

