-- ==== Sys2Proof/Tests/Slice0.lean ====
section
/-! SUPPORT. Tests of the model, each expected value from spec/ by hand, and for every obligation with hypotheses a state and
operands that meet them. -/

namespace Sys2Proof.Tests

open Sys2Proof.Machine

/-! ## Helpers -/

/-- A quiet input in which the transport accepts the write and reports nothing. -/
def still : Input where
  rst := false
  start := false
  cmdWord := 0
  config := none
  returns := true
  written := 9
  available := 0
  received := []
  drained := none

/-- A small state: reset, but for the FSM state and the listed inputs. -/
def at' (f : Fsm) (l : List Input) : State :=
  { State.reset with fsm := f, busy := decide (f ≠ .idle), inputs := l }

/-- The next state of an outcome. -/
def nextOf : Host.Outcome State Fault Refusal → Option State
  | .next t => some t
  | .fault _ => none
  | .refused _ => none

/-- The response frame of 95_test_vectors.md: FF 86 03 E8 28 00 00 00 67, CO2 1000, temperature 0. -/
def reply : Frame := ⟨0xFF, 0x86, 0x03, 0xE8, 0x28, 0x00, 0x00, 0x00, 0x67⟩

/-! ## Well-formedness: one ill-formed term for each check -/

theorem test_span_below_range_ill_formed : (Instr.calSpan 999).wellFormed = false := by decide
theorem test_span_above_range_ill_formed : (Instr.calSpan 5001).wellFormed = false := by decide
theorem test_span_bounds_well_formed :
    (Instr.calSpan 1000).wellFormed = true ∧ (Instr.calSpan 5000).wellFormed = true := by decide
theorem test_range_ill_formed : (Instr.setRange 3000).wellFormed = false := by decide
theorem test_range_well_formed :
    (Instr.setRange 2000).wellFormed = true ∧ (Instr.setRange 5000).wellFormed = true := by decide
theorem test_unchecked_arguments_well_formed :
    (Instr.readCo2 0xFFFF).wellFormed = true ∧ (Instr.calZero 0xFFFF).wellFormed = true ∧
      (Instr.setAbc 0xFFFF).wellFormed = true := by decide
theorem test_line_operand_too_wide :
    (AsmLine.calSpan 65536).wellFormed = false ∧ (AsmLine.setAbc 65536).wellFormed = false ∧
      (AsmLine.setRange 65536).wellFormed = false ∧ (AsmLine.calSpan 65535).wellFormed = true := by decide
theorem test_config_poll_max_zero_ill_formed : Config.wellFormed { defaultConfig with pollMax := 0 } = false := by decide
theorem test_config_equal_commands_ill_formed :
    Config.wellFormed { defaultConfig with cmdSpan := 0x87 } = false ∧
      Config.wellFormed { defaultConfig with cmdZero := 0x86 } = false := by decide

/-! ## Decoding: words written bit by bit from 30_encoding.md R100 to R102 (RSVD, OP, ARG) -/

theorem test_decode_readCo2 : decode 0b0000000000000_000_0000000000000000#32 = .ok (.readCo2 0) := by decide
theorem test_decode_readCo2_rsvd_set : decode 0b1111111111111_000_0001001000110100#32 = .ok (.readCo2 0x1234) := by decide
theorem test_decode_calZero : decode 0b0000000000000_001_0000000000000000#32 = .ok (.calZero 0) := by decide
theorem test_decode_calSpan : decode 0b0000000000000_010_0000011111010000#32 = .ok (.calSpan 2000) := by decide
theorem test_decode_setAbc : decode 0b0000000000000_011_0000000000000001#32 = .ok (.setAbc 1) := by decide
theorem test_decode_setRange : decode 0b0000000000000_100_0001001110001000#32 = .ok (.setRange 5000) := by decide
theorem test_decode_reserved :
    decode 0b0000000000000_101_0000000000000000#32 = .error (.reservedOp 5) ∧
      decode 0b0000000000000_110_0000000000000000#32 = .error (.reservedOp 6) ∧
      decode 0b0000000000000_111_0000000000000000#32 = .error (.reservedOp 7) := by decide
theorem test_table_words :
    decodeTableWord 32 0x00000000 = some (.readCo2 0) ∧ decodeTableWord 32 0x00010000 = some (.calZero 0) ∧
      decodeTableWord 32 0x00020000 = some (.calSpan 0) ∧ decodeTableWord 32 0x00030000 = some (.setAbc 0) ∧
      decodeTableWord 32 0x00040000 = some (.setRange 0) ∧ decodeTableWord 32 0x00050000 = none := by decide
theorem test_encode_setRange : encode (.setRange 2000) = 0x000407D0 := by decide

/-! ## Assembler and command frames (30_encoding.md R113, R115) -/

theorem test_assemble_span_decimal : assemble "CAL_SPAN 2000" = some 0x000207D0 := by decide
theorem test_assemble_span_hexadecimal : assemble "CAL_SPAN 0x7d0" = some 0x000207D0 := by decide
theorem test_assemble_abc_words :
    assemble "SET_ABC ON" = some 0x00030001 ∧ assemble "SET_ABC OFF" = some 0x00030000 := by decide
theorem test_assemble_no_operand : assemble "READ_CO2" = some 0 ∧ assemble "CAL_SPAN" = none := by decide
theorem test_assemble_too_wide : assemble "SET_RANGE 65536" = none := by decide
theorem test_decodeFrame_span :
    decodeFrame defaultConfig ⟨0xFF, 0x01, 0x88, 0x07, 0xD0, 0x00, 0x00, 0x00, 0xA0⟩ = .ok (.calSpan 2000) := by decide
theorem test_decodeFrame_rejects_by_name :
    decodeFrame defaultConfig ⟨0xFF, 0x01, 0x88, 0x07, 0xD0, 0x00, 0x00, 0x00, 0xA1⟩ = .error .notACommandFrame ∧
      decodeFrame defaultConfig ⟨0xFF, 0x01, 0x00, 0x00, 0x00, 0x00, 0x00, 0x00, 0xFF⟩ = .error (.unknownCommand 0) ∧
      decodeFrame defaultConfig ⟨0xFF, 0x01, 0x86, 0x00, 0x01, 0x00, 0x00, 0x00, 0x78⟩ = .error .neverSent := by decide

/-! ## One step -/

/-- 43_response_validator.md R205: the reply's CO2 is 1000 and its temperature 0x28 - 40 = 0. -/
theorem test_readCo2_decodes_reading :
    (nextOf (exec (.readCo2 0) { at' .decode [still] with buf := reply })).map (fun t => (t.ppm, t.temp, t.resValid, t.fsm))
      = some (1000, 0, true, .complete) := by decide

/-- 43_response_validator.md R206: raw 0x00 is -40, 0xFFD8. -/
theorem test_readCo2_coldest_temperature :
    (nextOf (exec (.readCo2 0) { at' .decode [still] with buf := { reply with b4 := 0x00 } })).map State.temp
      = some 0xFFD8 := by decide

/-- 41_frame_builder.md R150: the CAL_ZERO frame with the default byte. -/
theorem test_calZero_frame :
    (nextOf (exec (.calZero 0x55AA) (at' .build [still]))).map State.buf
      = some ⟨0xFF, 0x01, 0x87, 0x00, 0x00, 0x00, 0x00, 0x00, 0x78⟩ := by decide

/-- 42_transport_exchange.md R167: a setting operation goes from RX_READ to COMPLETE. -/
theorem test_calZero_skips_validation :
    (nextOf (exec (.calZero 0)
      { at' .rxRead [{ still with received := [0, 0, 0, 0, 0, 0, 0, 0, 1] }] with opR := 1 })).map (fun t => (t.fsm, t.rcount))
      = some (.complete, 9) := by decide

/-- 41_frame_builder.md R150: CAL_SPAN 2000. -/
theorem test_calSpan_frame :
    (nextOf (exec (.calSpan 2000) (at' .build [still]))).map State.buf
      = some ⟨0xFF, 0x01, 0x88, 0x07, 0xD0, 0x00, 0x00, 0x00, 0xA0⟩ := by decide

/-- 41_frame_builder.md R147: 999 and 5001 fail with InvalidArgument, 1000 and 5000 pass. -/
theorem test_calSpan_argument_bounds :
    [999, 1000, 5000, 5001].map (fun n : Nat =>
      (nextOf (exec (.calSpan (BitVec.ofNat 16 n)) (at' .argchk [still]))).map (fun t => (t.err, t.fsm)))
      = [some (1, .complete), some (0, .build), some (0, .build), some (1, .complete)] := by decide

/-- 41_frame_builder.md R142, D26: `enabled` is bit 0 alone. -/
theorem test_setAbc_uses_bit_zero :
    [0, 1, 2, 0xFFFF].map (fun n : Nat =>
      (nextOf (exec (.setAbc (BitVec.ofNat 16 n)) (at' .build [still]))).map (fun t => t.buf.b3))
      = [some 0x00, some 0xA0, some 0x00, some 0xA0] := by decide

/-- 41_frame_builder.md R150: the checksum of SET_ABC on is 0xE6. -/
theorem test_setAbc_checksum :
    (nextOf (exec (.setAbc 1) (at' .build [still]))).map (fun t => t.buf.b8) = some 0xE6 := by decide

/-- 41_frame_builder.md R150: SET_RANGE 5000. -/
theorem test_setRange_frame :
    (nextOf (exec (.setRange 5000) (at' .build [still]))).map State.buf
      = some ⟨0xFF, 0x01, 0x99, 0x13, 0x88, 0x00, 0x00, 0x00, 0xCB⟩ := by decide

/-- 41_frame_builder.md R148: 3000 fails with InvalidArgument. -/
theorem test_setRange_rejects_3000 :
    (nextOf (exec (.setRange 3000) (at' .argchk [still]))).map (fun t => (t.err, t.fsm, t.calls))
      = some (1, .complete, []) := by decide

/-- 42_transport_exchange.md R162: a count of 8 is a short write, one of 10 is not. -/
theorem test_short_write_bound :
    [8, 9, 10].map (fun n : Nat =>
      (nextOf (exec (.readCo2 0) { at' .txFlush [still] with wcount := n })).map (fun t => (t.err, t.fsm)))
      = [some (2, .cfFlush), some (0, .pollQ), some (0, .pollQ)] := by decide

/-- 60_exceptions.md R247: after a BadHeader RESULT is -6, 0xFFFFFFFA. -/
theorem test_result_is_minus_code :
    (nextOf (exec (.readCo2 0) { at' .complete [still] with err := 6 })).map (fun t => (t.status, t.result, t.done))
      = some (6, 0xFFFFFFFA, true) := by decide

/-- The reserved operation 7 in ARGCHK (41_frame_builder.md R146). -/
theorem test_reserved_fails_argchk :
    (nextOf (step { at' .argchk [still] with opR := 7 })).map (fun t => (t.err, t.fsm)) = some (1, .complete) := by decide

/-- A sensor that answers only the READ_CO2 command, after one query. -/
def readOnlySensor : SensorScript := fun commands =>
  if commands.head? = some [0xFF, 0x01, 0x86, 0x00, 0x00, 0x00, 0x00, 0x00, 0x79] then some (1, frameBytes reply) else none

/-- 20_memory.md R86: `T.write` hands its bytes to the script, and the response depends on them. -/
theorem test_reference_transport_reads_the_command :
    let quietLine : RefTransport := { queue := [], commands := [], pending := [] }
    (quietLine.answer readOnlySensor (.write [0xFF, 0x01, 0x86, 0x00, 0x00, 0x00, 0x00, 0x00, 0x79]) still).2.pending
        = [(1, frameBytes reply)] ∧
      (quietLine.answer readOnlySensor (.write [0xFF, 0x01, 0x87, 0x00, 0x00, 0x00, 0x00, 0x00, 0x78]) still).2
        = { quietLine with commands := [[0xFF, 0x01, 0x87, 0x00, 0x00, 0x00, 0x00, 0x00, 0x78]] } := by decide

/-- The step after withFetchWord starts the row's operation (44_operations.md R220). -/
theorem test_fetch_word_starts :
    (nextOf (step (State.reset.withFetchWord 32 0x000407D0))).map (fun t => (t.opR, t.argR, t.busy, t.fsm))
      = some (4, 2000, true, .argchk) := by decide

/-! ## Witnesses: for each obligation with hypotheses, a state and operands that meet them, at the bounds of each clause -/

/-- An input that starts the word `w`. -/
def press (w : Word) : Input := { still with start := true, cmdWord := w }

/-- The engine in IDLE with the listed inputs. -/
def idle (l : List Input) : State := { State.reset with inputs := l }

/-- An input whose transport reports `n` bytes. -/
def report (n : Nat) : Input := { still with available := n }

/-- An input whose transport delivers the bytes `l`. -/
def deliver (l : List Byte) : Input := { still with received := l }

theorem quiet_still : quiet still := ⟨rfl, rfl, rfl⟩

theorem witness_HostWordDecodesByItsFields :
    (0xFFF8FFFF#32).toNat / 65536 % 8 = 0 ∧ (0x00010000#32).toNat / 65536 % 8 = 1 ∧
      (0x0002FFFF#32).toNat / 65536 % 8 = 2 ∧ (0x00030001#32).toNat / 65536 % 8 = 3 ∧
      (0x000407D0#32).toNat / 65536 % 8 = 4 ∧ 5 ≤ (0x00050000#32).toNat / 65536 % 8 ∧
      5 ≤ (0xFFFFFFFF#32).toNat / 65536 % 8 := by decide

theorem witness_EncodeOfDecodeIsTheWordWithoutRsvd : decode 0xFFF81234 = .ok (.readCo2 0x1234) := by decide

theorem witness_AssemblerLinesGiveTheirWords : 65535 < 65536 ∧ ¬ 65536 < 65536 := by decide

theorem witness_CommandFrameShowsItsOperation : defaultConfig.wellFormed = true := by decide

theorem witness_AcceptedFrameIsTheFrameOfItsOperation :
    decodeFrame defaultConfig ⟨0xFF, 0x01, 0x99, 0x07, 0xD0, 0x00, 0x00, 0x00, 0x8F⟩ = .ok (.setRange 2000) := by decide

theorem witness_ChecksumIsZeroExactlyWhenTheSumIs :
    frameSum ⟨0x00, 0xFF, 0x01, 0, 0, 0, 0, 0, 0⟩ % 256 = 0 ∧
      frameSum ⟨0x00, 0x01, 0x00, 0, 0, 0, 0, 0, 0⟩ % 256 ≠ 0 := by decide

theorem witness_VerifyAcceptsExactlyTheOwnChecksum :
    verify reply = true ∧ reply ≠ { reply with b0 := 0x00, b8 := 0x00 } ∧
      reply.b7 = ({ reply with b0 := 0x00, b8 := 0x00 } : Frame).b7 := by decide

theorem witness_ChecksumDetectsEverySingleBitFlip :
    (1 ≤ (1 : Fin 9).val ∧ (7 : Fin 9).val ≤ 7 ∧ 7 ≤ 7) ∧
      frameSum reply % 256 = frameSum { reply with b2 := 0x04, b3 := 0xE7 } % 256 ∧
      reply.b3 ≠ 0xFF ∧ reply.b4 ≠ 0x00 := by decide

theorem witness_WorkedFrames :
    let s : State := at' .build [still]
    s.fsm = .build ∧ s.cfg.cmdZero = 0x87 ∧ s.cfg.cmdSpan = 0x88 ∧ s.cfg.cmdAbc = 0x79 ∧ s.cfg.cmdRange = 0x99 := by decide

theorem witness_StepRunsTheNamedOperation :
    ((idle [press 0x00000000]).waiting ∧ starts (idle [press 0]).input 0 ∧ decode 0 = .ok (.readCo2 0)) ∧
      (idle [{ press 0 with config := some defaultConfig }]).input.config = some defaultConfig ∧
      (1 ≤ defaultConfig.pollMax) ∧
      ((at' .build [still]).fsm ≠ .idle ∧ (at' .build [still]).hung = false ∧ (at' .build [still]).input.rst = false ∧
        (at' .build [still]).input.config = none ∧ decodeFields (at' .build [still]).opR 0 = .ok (.readCo2 0)) ∧
      decodeTableWord 32 0x000407D0 = some (.setRange 2000) := by
  refine ⟨⟨⟨rfl, rfl⟩, ⟨rfl, rfl, rfl, rfl⟩, rfl⟩, rfl, by decide, ⟨by decide, rfl, rfl, rfl, rfl⟩, by decide⟩

theorem witness_StartIsAcceptedInIdleOnly :
    ((idle [press 0x00071234]).waiting ∧ starts (idle [press 0x00071234]).input 0x00071234) ∧
      ((at' .pollQ [still]).fsm ≠ .idle ∧ (at' .pollQ [still]).inputs = [still]) := by
  refine ⟨⟨⟨rfl, rfl⟩, ⟨rfl, rfl, rfl, rfl⟩⟩, by decide, rfl⟩

theorem witness_EveryOperationIsAccepted : (idle [still]).fsm = .idle := rfl

theorem witness_IdleWaitsForStart :
    (idle [still]).waiting ∧ (idle [still]).input.rst = false ∧ (idle [still]).input.config = none ∧
      (idle [still]).input.start = false := ⟨⟨rfl, rfl⟩, rfl, rfl, rfl⟩

theorem witness_ArgumentCheckPassesExactlyTheLegal :
    (at' .argchk [still]).fsm = .argchk ∧
      (1000 ≤ (1000#16).toNat ∧ (5000#16).toNat ≤ 5000) ∧ (999#16).toNat < 1000 ∧ 5000 < (5001#16).toNat ∧
      (2000#16).toNat = 2000 ∧ (5000#16).toNat = 5000 ∧ ((1999#16).toNat ≠ 2000 ∧ (1999#16).toNat ≠ 5000) ∧
      (let s : State := { at' .argchk [still] with opR := 5 }
       s.hung = false ∧ s.input.rst = false ∧ s.input.config = none ∧ 5 ≤ s.opR.toNat) := by decide

theorem witness_BuildWritesTheOperationsFrame : (at' .build [still]).fsm = .build := rfl

theorem witness_TxWriteSendsTheBuffer : (at' .txWrite [still]).fsm = .txWrite ∧ (at' .txWrite [still]).input.returns = true :=
  ⟨rfl, rfl⟩

theorem witness_TxFlushTestsTheWriteCount :
    (at' .txFlush [still]).input.returns = true ∧ ({ at' .txFlush [still] with wcount := 8 } : State).wcount < 9 ∧
      9 ≤ ({ at' .txFlush [still] with wcount := 9 } : State).wcount := by decide

theorem witness_PollQueryDecidesTheLoop :
    0 < (at' .pollQ [report 1]).input.available ∧
      (let s : State := { at' .pollQ [report 0] with pollCnt := 2 }
       s.fsm = .pollQ ∧ s.input.available = 0 ∧ s.pollCnt + 1 = s.cfg.pollMax) ∧
      (let s : State := { at' .pollQ [report 0] with pollCnt := 1 }
       s.fsm = .pollQ ∧ s.input.available = 0 ∧ s.pollCnt + 1 ≠ s.cfg.pollMax) := by decide

theorem witness_PollSleepReturnsToTheQuery : (at' .pollSleep [still]).fsm = .pollSleep := rfl

theorem witness_AvailCheckRequiresExactlyNine :
    ({ at' .availCheck [still] with acount := 9 } : State).acount = 9 ∧
      ({ at' .availCheck [still] with acount := 8 } : State).acount ≠ 9 ∧
      ({ at' .availCheck [still] with acount := 10 } : State).acount ≠ 9 := by decide

theorem witness_RxReadFillsTheBuffer :
    (at' .rxRead [deliver (frameBytes reply)]).input.returns = true ∧
      9 ≤ (at' .rxRead [deliver (frameBytes reply)]).input.received.length ∧
      (at' .rxRead [deliver [1, 2, 3, 4, 5, 6, 7, 8]]).input.received.length < 9 := by decide

theorem witness_CacheFlushSteps :
    (at' .cfFlush [still]).input.returns = true ∧
      0 < (at' .cfPollQ [report 1]).input.available ∧
      ({ at' .cfPollQ [still] with pollCnt := 2 } : State).pollCnt + 1 = (at' .cfPollQ [still]).cfg.pollMax ∧
      ((at' .cfPollQ [still]).input.available = 0 ∧ (at' .cfPollQ [still]).pollCnt + 1 ≠ (at' .cfPollQ [still]).cfg.pollMax) ∧
      (at' .cfPollSleep [still]).fsm = .cfPollSleep ∧ (at' .cfDrain [still]).drainLeft = 0 ∧
      (let s : State := { at' .cfDrain [{ still with drained := some 0x5A }] with drainLeft := 1 }
       0 < s.drainLeft ∧ s.input.returns = true ∧ s.input.drained = some 0x5A) ∧
      (let s : State := { at' .cfDrain [still] with drainLeft := 1 }
       0 < s.drainLeft ∧ s.input.returns = true ∧ s.input.drained = none) := by decide

theorem witness_ValidateChecksInOrder :
    (at' .validate [still]).fsm = .validate ∧ ({ reply with b0 := 0xFE } : Frame).b0 ≠ 0xFF ∧
      (reply.b0 = 0xFF ∧ -(reply.b1 + reply.b2 + reply.b3 + reply.b4 + reply.b5 + reply.b6 + reply.b7) = reply.b8 ∧
        reply.b1 = 0x86 ∧ defaultConfig.echoCheck = true) ∧
      -(reply.b1 + reply.b2 + reply.b3 + reply.b4 + reply.b5 + reply.b6 + reply.b7)
        ≠ ({ reply with b8 := 0x68 } : Frame).b8 ∧
      (let f : Frame := { reply with b1 := 0x87, b8 := 0x66 }
       f.b8 = -(f.b1 + f.b2 + f.b3 + f.b4 + f.b5 + f.b6 + f.b7) ∧ f.b1 ≠ 0x86) := by decide

theorem witness_DecodeGivesPpmAndTemperature : (at' .decode [still]).fsm = .decode := rfl

theorem witness_CompleteReportsTheOutcome :
    (at' .complete [still]).fsm = .complete ∧ (at' .complete [still]).err = 0 ∧
      ({ at' .complete [still] with err := 8 } : State).err ≠ 0 := by decide

theorem witness_ReadCo2SucceedsOnAGoodResponse :
    let l := [press 0x00000000, still, still, still, still, report 9, still, deliver (frameBytes reply), still, still, still]
    (idle l).waiting ∧ (idle l).inputs = l ∧ starts (press 0x00000000) 0 ∧ (0#32).toNat / 65536 % 8 = 0 ∧
      (∀ x ∈ l.tail, x.rst = false ∧ x.config = none ∧ x.returns = true) ∧ 9 ≤ still.written ∧ (report 9).available = 9 ∧
      reply.b0 = 0xFF ∧ verify reply = true ∧ reply.b1 = 0x86 :=
  ⟨⟨rfl, rfl⟩, rfl, ⟨rfl, rfl, rfl, rfl⟩, by decide, by decide, by decide, rfl, by decide, by decide, by decide⟩

theorem witness_SettingOperationSucceedsOnAnyNineBytes :
    let l := [press 0x000203E8, still, still, still, still, report 9, still, deliver (frameBytes reply), still]
    (idle l).waiting ∧ (idle l).inputs = l ∧ starts (press 0x000203E8) 0x000203E8 ∧
      decode 0x000203E8 = .ok (.calSpan 1000) ∧ (Instr.calSpan 1000).op ≠ 0 ∧ (Instr.calSpan 1000).wellFormed = true ∧
      (∀ x ∈ l.tail, x.rst = false ∧ x.config = none ∧ x.returns = true) ∧
      9 ≤ (deliver (frameBytes reply)).received.length :=
  ⟨⟨rfl, rfl⟩, rfl, ⟨rfl, rfl, rfl, rfl⟩, by decide, by decide, by decide, by decide, by decide⟩

theorem witness_IllegalWordCompletesWithInvalidArgument :
    let l := [press 0x00050000, still, still]
    (idle l).waiting ∧ (idle l).inputs = l ∧ starts (press 0x00050000) 0x00050000 ∧
      (∀ i : Instr, decode 0x00050000 = .ok i → i.wellFormed = false) ∧
      (∀ i : Instr, decode 0x000203E7 = .ok i → i.wellFormed = false) := by
  refine ⟨⟨rfl, rfl⟩, rfl, ⟨rfl, rfl, rfl, rfl⟩, ?_, ?_⟩ <;> intro i h
  · cases h
  · cases h
    decide

theorem witness_NoResponseAfterExactlyPollMaxQueries :
    let s : State := at' .pollQ (List.replicate 5 still ++ [])
    s.fsm = .pollQ ∧ s.pollCnt = 0 ∧ s.hung = false ∧ s.opR.toNat ≤ 4 ∧ 1 ≤ s.cfg.pollMax ∧
      (List.replicate 5 still).length = 2 * s.cfg.pollMax - 1 ∧ still.available = 0 := by decide

theorem witness_PollLoopEndsAtTheFirstNonzeroCount :
    let s : State := at' .pollQ ([still, still, still, still] ++ [report 4])
    s.fsm = .pollQ ∧ s.pollCnt = 0 ∧ s.hung = false ∧ s.opR.toNat ≤ 4 ∧ 1 ≤ 3 ∧ 3 ≤ s.cfg.pollMax ∧
      [still, still, still, still].length = 2 * 3 - 2 ∧ 0 < (report 4).available := by decide

theorem witness_PollLoopEndsAtOnce :
    let s : State := at' .pollQ ([] ++ [report 9])
    1 ≤ s.cfg.pollMax ∧ ([] : List Input).length = 2 * 1 - 2 ∧ 0 < (report 9).available := by decide

theorem witness_SettleWaitLoadsTheDrainCount :
    let s : State := at' .cfFlush (still :: [still, still] ++ [report 2])
    s.fsm = .cfFlush ∧ s.hung = false ∧ s.opR.toNat ≤ 4 ∧ 1 ≤ 2 ∧ (2 < s.cfg.pollMax ∧ 0 < (report 2).available) ∧
      [still, still].length = 2 * 2 - 2 ∧ 3 = s.cfg.pollMax := by decide

theorem witness_DrainReadsTheCountedBytes :
    let y : Input := { still with drained := some 0x00 }
    let s : State := { at' .cfDrain ([y, y] ++ [still]) with drainLeft := 2 }
    let u : State := { at' .cfDrain ([y] ++ [still]) with drainLeft := 2 }
    s.fsm = .cfDrain ∧ s.hung = false ∧ s.opR.toNat ≤ 4 ∧ [y, y].length = s.drainLeft ∧ y.drained.isSome = true ∧
      [y].length < u.drainLeft ∧ still.drained = none := by decide

theorem witness_SilentSensorEndsInNoResponse :
    let s : State := idle (press 0x00010000 :: List.replicate 17 still ++ [])
    s.waiting ∧ 1 ≤ s.cfg.pollMax ∧ (List.replicate 17 still).length = 4 * s.cfg.pollMax + 5 ∧
      starts (press 0x00010000) 0x00010000 ∧ decode 0x00010000 = .ok (.calZero 0) ∧
      (Instr.calZero 0).wellFormed = true ∧ still.written = 9 ∧ still.available = 0 :=
  ⟨⟨rfl, rfl⟩, by decide, by decide, ⟨rfl, rfl, rfl, rfl⟩, by decide, by decide, rfl, rfl⟩

theorem witness_OperationLengthIsBounded :
    let s : State := at' .argchk [still, still]
    let u : State := { at' .cfDrain [still] with drainLeft := 1 }
    s.fsm = .argchk ∧ s.PollInv ∧ s.hung = false ∧ 2 ≤ s.inputs.length ∧
      (∀ v ∈ State.visited 2 s, v.fsm ≠ .idle) ∧ u.fsm = .cfDrain ∧ (∀ v ∈ State.visited 1 u, v.fsm ≠ .idle) := by
  refine ⟨rfl, ⟨by decide, by decide, by decide⟩, rfl, by decide, by decide, rfl, by decide⟩

theorem witness_DrainEmptiesTheReferenceQueue :
    let b : Bench := {
      machine := { at' .cfDrain [] with drainLeft := 2 }
      transport := { queue := [0x01, 0x02, 0x03], commands := [], pending := [] } }
    b.machine.fsm = .cfDrain ∧ b.machine.hung = false ∧ b.machine.opR.toNat ≤ 4 ∧
      b.machine.drainLeft ≤ b.transport.queue.length ∧ [still, still, still].length = b.machine.drainLeft + 1 := by decide

/-- TX_WRITE of a CAL_ZERO, in a state that meets the invariant. -/
def running : State :=
  { at' .txWrite [still] with opR := 1, buf := ⟨0xFF, 0x01, 0x87, 0x00, 0x00, 0x00, 0x00, 0x00, 0x78⟩ }

theorem running_inv : running.Inv := by
  refine ⟨⟨by decide, by decide, by decide⟩, ⟨by decide, by decide, by decide, by decide, by decide⟩,
    ⟨by decide, by decide, by decide⟩,
    ⟨by decide, by decide, by decide, by decide, by decide, by decide, by decide, by decide, by decide⟩,
    ⟨by decide, by decide, by decide, by decide, by decide, by decide, by decide, by decide⟩⟩

theorem witness_EveryStepKeepsTheInvariant : running.Inv ∧ ∃ t, step running = .next t := ⟨running_inv, _, rfl⟩

theorem witness_StepFromTheInvariantNeverFaults : running.Inv ∧ running.input.config = none := ⟨running_inv, rfl⟩

theorem witness_SentFrameIsTheOperationsWithFreshChecksum :
    running.Inv ∧ running.fsm = .txWrite ∧ running.hung = false ∧ running.input.rst = false ∧
      ∃ t, step running = .next t := ⟨running_inv, rfl, rfl, rfl, _, rfl⟩

/-- A READ_CO2 that has completed with a reading. -/
def finished : State :=
  { idle [] with done := true, resValid := true, ppm := 1000, temp := 0, result := 1000 }

/-- A READ_CO2 that has completed with NoResponse. -/
def failed : State :=
  { idle [] with done := true, err := 3, status := 3, result := 0xFFFFFFFD }

theorem finished_inv : finished.Inv := by
  refine ⟨⟨by decide, by decide, by decide⟩, ⟨by decide, by decide, by decide, by decide, by decide⟩,
    ⟨by decide, by decide, by decide⟩,
    ⟨by decide, by decide, by decide, by decide, by decide, by decide, by decide, by decide, by decide⟩,
    ⟨by decide, by decide, by decide, by decide, by decide, by decide, by decide, by decide⟩⟩

theorem failed_inv : failed.Inv := by
  refine ⟨⟨by decide, by decide, by decide⟩, ⟨by decide, by decide, by decide, by decide, by decide⟩,
    ⟨by decide, by decide, by decide⟩,
    ⟨by decide, by decide, by decide, by decide, by decide, by decide, by decide, by decide, by decide⟩,
    ⟨by decide, by decide, by decide, by decide, by decide, by decide, by decide, by decide⟩⟩

theorem witness_ResultTellsFailureFromReading :
    (finished.Inv ∧ finished.definedResult = some finished.outputs ∧ finished.outputs.resValid = true) ∧
      (failed.Inv ∧ failed.definedResult = some failed.outputs ∧ failed.outputs.status ≠ 0) :=
  ⟨⟨finished_inv, rfl, rfl⟩, ⟨failed_inv, rfl, by decide⟩⟩

theorem witness_ReadingChangesOnlyAtDecodeStartOrReset :
    ∃ t, step { at' .decode [still] with buf := reply } = .next t ∧ t.ppm ≠ 0 := ⟨_, rfl, by decide⟩

theorem witness_BufferChangesOnlyInBuildRxReadOrReset :
    (∃ t, step (at' .build [still]) = .next t ∧ frameByte t.buf 2 ≠ frameByte (at' .build [still]).buf 2) ∧
      ∃ t, step (at' .rxRead [deliver [0xFF, 0x86]]) = .next t ∧
        frameByte t.buf 1 ≠ frameByte (at' .rxRead [deliver [0xFF, 0x86]]).buf 1 :=
  ⟨⟨_, rfl, by decide⟩, _, rfl, by decide⟩

theorem witness_LatchesChangeOnlyAtStartOrReset :
    ∃ t, step (idle [press 0x000407D0]) = .next t ∧ t.opR ≠ (idle [press 0x000407D0]).opR := ⟨_, rfl, by decide⟩

theorem witness_FlagsChangeOnlyAtCompleteStartOrReset :
    ∃ t, step (at' .complete [still]) = .next t ∧ t.done ≠ (at' .complete [still]).done := ⟨_, rfl, by decide⟩

theorem witness_CacheFlushChangesOnlyItsOwnRegisters :
    (at' .cfFlush [still]).fsm.inFlush = true ∧ (at' .cfDrain [still]).fsm.inFlush = true := ⟨rfl, rfl⟩

theorem witness_ConfigurationIsNeverWrittenByAnOperation :
    (∃ t, exec (.readCo2 0) (at' .build [still]) = .next t) ∧
      ∃ t, step (idle [{ still with config := some { defaultConfig with pollMax := 1 } }]) = .next t ∧
        t.cfg ≠ (idle []).cfg := ⟨⟨_, rfl⟩, _, rfl, by decide⟩

theorem witness_ResetAbandonsTheOperation :
    let s : State := at' .rxRead [{ still with rst := true }]
    s.hung = false ∧ s.input.rst = true ∧ s.input.config = none := by decide

theorem witness_CallThatNeverReturnsHangsForGood :
    let s : State := at' .txFlush [{ still with returns := false }]
    let u : State := { at' .txFlush [{ still with rst := true }] with hung := true }
    (s.fsm.mayHang = true ∧ s.nextCall = some .flush ∧ s.input.returns = false) ∧
      (u.hung = true ∧ 1 ≤ u.inputs.length ∧ u.input.config = none) := by decide

theorem witness_ConfigurationMoveOnlyWhileNotBusy :
    let x : Input := { still with config := some defaultConfig }
    let z : Input := { still with config := some { defaultConfig with pollMax := 0 } }
    ((at' .pollQ [x]).inputs = [x] ∧ x.config = some defaultConfig ∧ (at' .pollQ [x]).busy = true) ∧
      ((idle [z]).busy = false ∧ z.config = some { defaultConfig with pollMax := 0 }) ∧
      ((idle [x]).busy = false ∧ 1 ≤ defaultConfig.pollMax) := by decide

theorem witness_DeadRegistersInfluenceNothing :
    SameLive (idle [press 0]) { idle [press 0] with buf := reply, opR := 3, err := 7, pollCnt := 2, wcount := 5 } ∧
      ∃ t, step (idle [press 0]) = .next t := by
  refine ⟨⟨rfl, rfl, rfl, rfl, rfl, rfl, rfl, ?_, ?_, ?_, ?_, ?_, ?_⟩, _, rfl⟩ <;> decide

theorem witness_OperationsAreIndependent :
    let s : State := idle [press 0, still]
    let t : State := { failed with buf := reply, pollCnt := 3, acount := 7, inputs := [press 0, still] }
    s.waiting ∧ t.waiting ∧ s.cfg = t.cfg ∧ s.inputs = t.inputs ∧ s.tick = t.tick ∧ s.calls = t.calls ∧
      starts s.input 0 ∧ ∃ s1, s.run 2 = .next s1 :=
  ⟨⟨rfl, rfl⟩, ⟨rfl, rfl⟩, rfl, rfl, rfl, rfl, ⟨rfl, rfl, rfl, rfl⟩, _, rfl⟩

theorem witness_StepMakesExactlyItsCall :
    (at' .pollQ [still]).input.config = none ∧ (∃ t, step (at' .pollQ [still]) = .next t) ∧
      (at' .pollQ [still]).nextCall = some .available := ⟨rfl, ⟨_, rfl⟩, rfl⟩

end Sys2Proof.Tests
end

section
/-! The host's configuration move (10_state.md R51): what it answers, one lemma an outcome, and that nothing else in a
step reads it. -/

namespace Sys2Proof.Machine

theorem configure_busy {s : State} {c : Config} (move : s.input.config = some c) (busy : s.busy = true) :
    s.configure = .error .configChangedWhileBusy := by
  simp [State.configure, move, busy]

theorem configure_pollMaxZero {s : State} {c : Config} (move : s.input.config = some c) (free : s.busy = false)
    (zero : c.pollMax = 0) : s.configure = .error .pollMaxZero := by
  simp [State.configure, move, free, zero]

theorem configure_taken {s : State} {c : Config} (move : s.input.config = some c) (free : s.busy = false)
    (pos : 1 ≤ c.pollMax) : s.configure = .ok { s with cfg := c } := by
  simp [State.configure, move, free, Nat.ne_of_gt pos]

theorem step_refused {s : State} {r : Refusal} (h : s.configure = .error r) : step s = .refused r := by
  simp [step_eq, h]

theorem step_configured {s s1 : State} (h : s.configure = .ok s1) : step s = stepOn s1 := by
  simp [step_eq, h]

/-- `s` with the list `l` in place of its inputs. -/
def State.withInputs (s : State) (l : List Input) : State :=
  { s with inputs := l }

@[simp] theorem State.withInputs_fsm (s : State) (l : List Input) : (s.withInputs l).fsm = s.fsm := rfl
@[simp] theorem State.withInputs_opR (s : State) (l : List Input) : (s.withInputs l).opR = s.opR := rfl
@[simp] theorem State.withInputs_argR (s : State) (l : List Input) : (s.withInputs l).argR = s.argR := rfl
@[simp] theorem State.withInputs_cfg (s : State) (l : List Input) : (s.withInputs l).cfg = s.cfg := rfl
@[simp] theorem State.withInputs_hung (s : State) (l : List Input) : (s.withInputs l).hung = s.hung := rfl

theorem State.withInputs_ite (p : Prop) [Decidable p] (s t : State) (l : List Input) :
    (if p then s else t).withInputs l = if p then s.withInputs l else t.withInputs l :=
  apply_ite (State.withInputs · l) p s t

/-- The transport's answers in two inputs are the same; the host's pins may differ. -/
structure SameAnswers (x y : Input) : Prop where
  returns : x.returns = y.returns
  written : x.written = y.written
  available : x.available = y.available
  received : x.received = y.received
  drained : x.drained = y.drained

theorem query_withInputs {s : State} {l : List Input}
    (available : (s.withInputs l).input.available = s.input.available) :
    (s.withInputs l).query = s.query.withInputs l := by
  simp only [State.query, available]
  rfl

/-- The step of an operation reads the answers in its input and none of the pins. -/
theorem transition_withInputs {s : State} {l : List Input} (d : Operation)
    (same : SameAnswers (s.withInputs l).input s.input) :
    (s.withInputs l).transition d = (s.transition d).withInputs l := by
  obtain ⟨returns, written, available, received, drained⟩ := same
  cases hf : s.fsm <;> simp only [State.transition, State.withInputs_fsm, hf]
  case idle | build | pollSleep | decode | cfPollSleep | complete => rfl
  case argchk => simp only [State.argchk, State.withInputs_ite]; rfl
  case txWrite => simp only [State.txWrite, returns, written, State.withInputs_ite]; rfl
  case txFlush => simp only [State.txFlush, returns, State.withInputs_ite]; rfl
  case pollQ => simp only [State.pollQ, query_withInputs available, State.withInputs_ite]; rfl
  case availCheck => simp only [State.availCheck, State.withInputs_ite]; rfl
  case rxRead => simp only [State.rxRead, returns, received, State.withInputs_ite]; rfl
  case validate => simp only [State.validate, State.withInputs_ite]; rfl
  case cfFlush => simp only [State.cfFlush, returns, State.withInputs_ite]; rfl
  case cfPollQ => simp only [State.cfPollQ, query_withInputs available, State.withInputs_ite]; rfl
  case cfDrain =>
    simp only [State.cfDrain, returns, drained, State.withInputs_ite]
    cases s.input.drained <;> rfl

theorem transition_inputs (s : State) (d : Operation) : (s.transition d).inputs = s.inputs := by
  have kept : s.transition d = (s.transition d).withInputs s.inputs :=
    transition_withInputs (l := s.inputs) d ⟨rfl, rfl, rfl, rfl, rfl⟩
  rw [kept]
  rfl

/-- The end of a step drops the input it used, whatever that was. -/
theorem advance_withInputs {s : State} {l : List Input} (tail : l.tail = s.inputs.tail) :
    (s.withInputs l).advance = s.advance := by
  simp only [State.advance, State.withInputs, tail]

theorem runReserved_withInputs {s : State} {l : List Input} (op : BitVec 3) (arg : Half)
    (tail : l.tail = s.inputs.tail) : runReserved op arg (s.withInputs l) = runReserved op arg s := by
  cases hf : s.fsm <;> simp only [runReserved, State.withInputs_fsm, hf]
  case idle => exact congrArg _ (advance_withInputs (s := s.accept op arg) tail)
  case argchk => exact congrArg _ (advance_withInputs (s := s.argchk false) tail)
  case complete => exact congrArg _ (advance_withInputs (s := s.complete op) tail)

/-- Once the configuration is settled, a step does not depend on the configuration move in its input. -/
theorem stepOn_withInputs {s : State} {x : Input} {l : List Input} {m : Option Config} (old : s.input = x)
    (new : (s.withInputs l).input = { x with config := m }) (tail : l.tail = s.inputs.tail) :
    stepOn (s.withInputs l) = stepOn s := by
  have same : SameAnswers (s.withInputs l).input s.input := by
    rw [old, new]
    exact ⟨rfl, rfl, rfl, rfl, rfl⟩
  have transition (d : Operation) : ((s.withInputs l).transition d).advance = (s.transition d).advance := by
    rw [transition_withInputs d same, advance_withInputs (by rw [transition_inputs, tail])]
  have reset : (s.withInputs l).assertReset.advance = s.assertReset.advance :=
    advance_withInputs (s := s.assertReset) tail
  have accept (op : BitVec 3) (arg : Half) : ((s.withInputs l).accept op arg).advance = (s.accept op arg).advance :=
    advance_withInputs (s := s.accept op arg) tail
  simp [stepOn, old, new, transition, reset, accept, advance_withInputs tail, runReserved_withInputs _ _ tail]

/-- A configuration the host may set acts as if it had been in force already and the host had made no move. -/
theorem step_takes_config {s : State} {x : Input} {rest : List Input} {c : Config} (inputs : s.inputs = x :: rest)
    (config : x.config = some c) (free : s.busy = false) (pos : 1 ≤ c.pollMax) :
    step s = step { s with cfg := c, inputs := { x with config := none } :: rest } := by
  have move : s.input.config = some c := by rw [State.input_cons inputs, config]
  calc step s
    _ = stepOn { s with cfg := c } := step_configured (configure_taken move free pos)
    _ = stepOn (State.withInputs { s with cfg := c } ({ x with config := none } :: rest)) :=
      (stepOn_withInputs (State.input_cons (s := { s with cfg := c }) inputs) rfl (by simp [inputs])).symm
    _ = step { s with cfg := c, inputs := { x with config := none } :: rest } :=
      (step_configured (configure_none rfl)).symm

/-- Settles O56: the first two clauses are what the move answers, the third that a move taken is read by nothing else. -/
theorem configurationMoveOnlyWhileNotBusy : Obligations.ConfigurationMoveOnlyWhileNotBusy := by
  intro s x rest c inputs config
  have move : s.input.config = some c := by rw [State.input_cons inputs, config]
  exact ⟨fun busy => step_refused (configure_busy move busy),
    fun free zero => step_refused (configure_pollMaxZero move free zero),
    fun free pos => step_takes_config inputs config free pos⟩

end Sys2Proof.Machine
end

section
/-! What one step leaves alone (10_state.md R34, R35, R42 to R48, R51). First the step of an operation in progress, one
lemma for each group of registers; then a step as a whole, which outside RST and START does nothing else. -/

namespace Sys2Proof.Machine

theorem transition_cfg (s : State) (d : Operation) : (s.transition d).cfg = s.cfg := by
  cases transition_cases s d
  all_goals next eq => simp only [eq, State.accept_cfg]

section
variable {s : State} (running : s.fsm ≠ .idle) (d : Operation)
include running

theorem transition_latches : (s.transition d).opR = s.opR ∧ (s.transition d).argR = s.argR := by
  cases transition_cases s d
  case accepted at_ _ => exact absurd at_ running
  all_goals next eq => simp only [eq, and_self]

theorem transition_reading (notDecode : s.fsm ≠ .decode) :
    (s.transition d).ppm = s.ppm ∧ (s.transition d).temp = s.temp ∧ (s.transition d).resValid = s.resValid := by
  cases transition_cases s d
  case accepted at_ _ => exact absurd at_ running
  case decoded at_ _ => exact absurd at_ notDecode
  all_goals next eq => simp only [eq, and_self]

theorem transition_flags (notComplete : s.fsm ≠ .complete) :
    (s.transition d).status = s.status ∧ (s.transition d).result = s.result ∧ (s.transition d).busy = s.busy ∧
      (s.transition d).done = s.done := by
  cases transition_cases s d
  case accepted at_ _ => exact absurd at_ running
  case completed at_ _ => exact absurd at_ notComplete
  all_goals next eq => simp only [eq, and_self]

end

/-- BUILD writes BUF whole, RX_READ at the offsets of the bytes received (42_transport_exchange.md R167). -/
theorem transition_buf_byte {s : State} {i : Fin 9} (d : Operation) (notBuild : s.fsm ≠ .build)
    (notReceived : s.fsm = .rxRead → s.input.received.length ≤ i.val) :
    frameByte (s.transition d).buf i = frameByte s.buf i := by
  cases transition_cases s d
  case built at_ _ => exact absurd at_ notBuild
  case shortRead at_ _ _ eq => rw [eq]; exact placeReceived_kept _ _ _ (notReceived at_)
  case fullRead at_ _ _ eq => rw [eq]; exact placeReceived_kept _ _ _ (notReceived at_)
  all_goals next eq => simp only [eq, State.accept_buf]

/-! Which operation an engine step is one of, and everything a step can do in those terms. -/

/-- The engine step of the operation in progress is one of `d`: what `d` supplies agrees with what OP_R and ARG_R name,
in each FSM state in which a rule reads it. A reserved OP has such a `d` too, in the states the spec lets it reach. -/
structure State.Runs (s : State) (d : Operation) : Prop where
  hung : s.hung = false
  running : s.fsm ≠ .idle
  op : d.op = s.opR
  legal : s.fsm = .argchk → d.legal = true → s.latchedLegal = true
  frame : s.fsm = .build → State.holdsCommandFrame { s with buf := commandFrame d.cmd d.d0 d.d1 } = true
  echo : s.fsm = .validate → s.opR = 0 → d.cmd = cmdRead

theorem runs_operationOf {s : State} {i : Instr} (hung : s.hung = false) (running : s.fsm ≠ .idle)
    (dec : decodeFields s.opR s.argR = .ok i) : s.Runs (operationOf s.cfg i) where
  hung := hung
  running := running
  op := by rw [operationOf_op, (decodeFields_ok dec).1]
  legal _ legal := by rw [operationOf_legal] at legal; simpa only [State.latchedLegal, dec] using legal
  frame _ := by simp only [State.holdsCommandFrame, dec, commandFrame_operationOf, decide_true]
  echo _ zero := by
    rw [zero] at dec
    cases dec
    rfl

/-- What a reserved OP supplies: ARGCHK rejects it, and BUILD and VALIDATE, which would read the rest, never come. -/
def reservedOperation (op : BitVec 3) (arg : Half) : Operation :=
  { op := op, arg := arg, legal := false, cmd := 0x00, d0 := 0x00, d1 := 0x00 }

theorem runs_reservedOperation {s : State} (hung : s.hung = false) (at_ : s.fsm = .argchk ∨ s.fsm = .complete) :
    s.Runs (reservedOperation s.opR s.argR) where
  hung := hung
  running := by obtain h | h := at_ <;> simp [h]
  op := rfl
  legal _ legal := by cases legal
  frame build := by simp [build] at at_
  echo validate := by simp [validate] at at_

/-- Everything one step can do, coarser than `StepCase`: nothing, a reset, START acceptance, or an engine step of the
operation in progress, reserved or not. -/
theorem StepCase.coarse {s t : State} (h : StepCase s t) :
    t = s.advance ∨ (s.hung = false ∧ s.input.rst = true ∧ t = s.assertReset.advance) ∨
      (s.hung = false ∧ s.fsm = .idle ∧ s.input.start = true ∧ ∃ op arg, t = (s.accept op arg).advance) ∨
      ∃ d, s.Runs d ∧ t = (s.transition d).advance := by
  cases h with
  | hanging _ eq => exact .inl eq
  | reset hung rst eq => exact .inr (.inl ⟨hung, rst, eq⟩)
  | waiting _ _ _ _ eq => exact .inl eq
  | accepted hung _ idle start eq => exact .inr (.inr (.inl ⟨hung, idle, start, _, _, eq⟩))
  | running i hung _ busy dec eq => exact .inr (.inr (.inr ⟨_, runs_operationOf hung busy dec, eq⟩))
  | rejected hung _ argchk _ eq =>
    refine .inr (.inr (.inr ⟨_, runs_reservedOperation hung (.inl argchk), ?_⟩))
    simp [eq, State.transition, argchk, State.argchk, reservedOperation]
  | reservedDone hung _ complete _ eq =>
    refine .inr (.inr (.inr ⟨_, runs_reservedOperation hung (.inr complete), ?_⟩))
    simp [eq, State.transition, complete, reservedOperation]

theorem StepCase.cfg {s t : State} (h : StepCase s t) : t.cfg = s.cfg := by
  obtain rfl | ⟨-, -, rfl⟩ | ⟨-, -, -, op, arg, rfl⟩ | ⟨d, -, rfl⟩ := h.coarse
  · rfl
  · rfl
  · rfl
  · exact transition_cfg s d

/-- Without RST and START acceptance a step changes no register, or is an engine step of the operation in progress. -/
theorem step_undisturbed {s t : State} (h : step s = .next t) (rst : s.input.rst ≠ true)
    (start : ¬(s.fsm = .idle ∧ s.input.start = true)) :
    ∃ c : Config, t = State.advance { s with cfg := c } ∨
      ∃ d, State.Runs { s with cfg := c } d ∧ t = (State.transition { s with cfg := c } d).advance := by
  obtain ⟨c, -, case⟩ := step_cases_config h
  obtain eq | ⟨-, hr, -⟩ | ⟨-, idle, hs, -⟩ | runs := case.coarse
  · exact ⟨c, .inl eq⟩
  · exact absurd hr rst
  · exact absurd ⟨idle, hs⟩ start
  · exact ⟨c, .inr runs⟩

/-! The statements. -/

/-- Settles O48: the engine step of an operation writes PPM, TEMP and RES_VALID in DECODE only. -/
theorem readingChangesOnlyAtDecodeStartOrReset : Obligations.ReadingChangesOnlyAtDecodeStartOrReset := by
  intro s t h changed
  by_contra! hn
  obtain ⟨decode, start, rst⟩ := hn
  obtain ⟨c, rfl | ⟨d, runs, rfl⟩⟩ := step_undisturbed h rst (fun hs => start hs.1 hs.2)
  · simp at changed
  · obtain ⟨ppm, temp, resValid⟩ := transition_reading runs.running d decode
    simp [ppm, temp, resValid] at changed

/-- Settles O49: the engine step of an operation writes a byte of BUF in BUILD, and in RX_READ if it was received. -/
theorem bufferChangesOnlyInBuildRxReadOrReset : Obligations.BufferChangesOnlyInBuildRxReadOrReset := by
  intro s t i h changed
  by_contra! hn
  obtain ⟨build, received, rst⟩ := hn
  obtain ⟨c, -, case⟩ := step_cases_config h
  obtain rfl | ⟨-, hr, -⟩ | ⟨-, -, -, op, arg, rfl⟩ | ⟨d, -, rfl⟩ := case.coarse
  · exact changed rfl
  · exact rst hr
  · exact changed rfl
  · exact changed (transition_buf_byte (s := { s with cfg := c }) d build received)

/-- Settles O50: the engine step of an operation writes neither latch. -/
theorem latchesChangeOnlyAtStartOrReset : Obligations.LatchesChangeOnlyAtStartOrReset := by
  intro s t h changed
  by_contra! hn
  obtain ⟨start, rst⟩ := hn
  obtain ⟨c, rfl | ⟨d, runs, rfl⟩⟩ := step_undisturbed h rst (fun hs => start hs.1 hs.2)
  · simp at changed
  · obtain ⟨opR, argR⟩ := transition_latches runs.running d
    simp [opR, argR] at changed

/-- Settles O51: the engine step of an operation writes STATUS, RESULT, BUSY and DONE in COMPLETE only. -/
theorem flagsChangeOnlyAtCompleteStartOrReset : Obligations.FlagsChangeOnlyAtCompleteStartOrReset := by
  intro s t h changed
  by_contra! hn
  obtain ⟨complete, start, rst⟩ := hn
  obtain ⟨c, rfl | ⟨d, runs, rfl⟩⟩ := step_undisturbed h rst (fun hs => start hs.1 hs.2)
  · simp at changed
  · obtain ⟨status, result, busy, done⟩ := transition_flags runs.running d complete
    simp [status, result, busy, done] at changed

/-- Settles O53: no engine step writes the configuration, so what a step finds changed is the host's move. -/
theorem configurationIsNeverWrittenByAnOperation : Obligations.ConfigurationIsNeverWrittenByAnOperation := by
  refine ⟨fun i s t h => ?_, fun s t h changed => ?_⟩
  · rw [exec_eq, Host.Outcome.next.injEq] at h
    subst h
    exact transition_cfg s _
  · obtain ⟨c, move, case⟩ := step_cases_config h
    have taken : t.cfg = c := case.cfg
    obtain same | ⟨free, config, -⟩ := move
    · exact absurd (taken.trans same) changed
    · exact ⟨free, taken ▸ config⟩

end Sys2Proof.Machine
end

section
/-! The invariant (10_state.md R38 to R48): one lemma for each of its five parts says that an engine step of the
operation in progress keeps it; RST, START acceptance and the host's configuration move follow. -/

namespace Sys2Proof.Machine

section
variable {s : State} {d : Operation}

theorem State.FlagsInv.running (h : s.FlagsInv) (running : s.fsm ≠ .idle) : s.busy = true ∧ s.done = false := by
  obtain ⟨busy, done, -⟩ := h
  refine ⟨by rw [busy]; exact decide_eq_true running, ?_⟩
  by_contra hd
  exact running (done (by simpa using hd))

theorem flagsInv_transition (h : s.FlagsInv) (runs : s.Runs d) : (s.transition d).FlagsInv := by
  have hung := runs.hung
  have running := runs.running
  obtain ⟨busy, done⟩ := h.running running
  cases transition_cases s d
  case accepted at_ _ => exact absurd at_ running
  case completed eq => simp [State.FlagsInv, eq, hung]
  case blocked at_ _ _ eq => simp [State.FlagsInv, eq, busy, done, at_, running]
  case fullRead eq | badHeader eq | badChecksum eq | badEcho eq =>
    rw [eq]
    split <;> simp [State.FlagsInv, busy, done, hung]
  all_goals next eq => simp [State.FlagsInv, eq, busy, done, hung, running]

theorem rangesInv_transition (h : s.RangesInv) : (s.transition d).RangesInv := by
  obtain ⟨status, err, rcount, temp⟩ := h
  cases transition_cases s d
  case accepted eq => simp [State.RangesInv, eq, rcount, codeOk]
  case decoded eq => simpa [State.RangesInv, eq, status, err, rcount] using frameTemp_range s.buf
  case shortRead count eq => simp [State.RangesInv, eq, status, temp]; omega
  case completed eq => rw [eq]; exact ⟨err, err, rcount, temp⟩
  all_goals next eq => simp [State.RangesInv, eq, status, err, rcount, temp]

theorem pollInv_transition (h : s.PollInv) : (s.transition d).PollInv := by
  obtain ⟨pos, inLoop, after⟩ := h
  cases transition_cases s d
  case blocked eq => rw [eq]; exact ⟨pos, inLoop, after⟩
  case pollData at_ _ eq | pollMore at_ _ _ eq | pollSlept at_ eq | settled at_ _ eq | settleMore at_ _ _ eq
      | settleSlept at_ eq =>
    have below := inLoop (by rw [at_]; rfl)
    simp [State.PollInv, eq, pos, Fsm.inLoop]
    omega
  case countNine at_ _ eq | validated at_ _ _ _ eq | drainByte at_ _ _ _ eq =>
    have bounded := after (by simp [at_])
    simp [State.PollInv, eq, pos, at_, bounded, Fsm.inLoop]
  case fullRead at_ _ _ eq =>
    have bounded := after (by simp [at_])
    rw [eq]
    split <;> simp [State.PollInv, pos, bounded, Fsm.inLoop]
  case badHeader eq | badChecksum eq | badEcho eq =>
    rw [eq]
    split <;> simp [State.PollInv, pos, Fsm.inLoop]
  case fullWrite eq | flushed eq =>
    simp [State.PollInv, eq, pos, Fsm.inLoop]
    omega
  all_goals next eq => simp [State.PollInv, eq, pos, Fsm.inLoop]

/-- Before COMPLETE the outputs are still those START acceptance wrote. -/
theorem State.OutcomeInv.outputs_zero (h : s.OutcomeInv) (running : s.fsm ≠ .idle) (notComplete : s.fsm ≠ .complete) :
    s.status = 0 ∧ s.result = 0 ∧ s.resValid = false ∧ s.ppm = 0 ∧ s.temp = 0 := by
  obtain ⟨-, -, zero, -, -, -, noReading, reading, -⟩ := h
  have resValid : s.resValid = false := by
    by_contra hr
    obtain ⟨-, -, at_⟩ := reading (by simpa using hr)
    exact at_.elim notComplete running
  exact ⟨(zero running).1, (zero running).2, resValid, noReading resValid⟩

theorem outcomeInv_transition (h : s.OutcomeInv) (flags : s.FlagsInv) (path : s.PathInv) (runs : s.Runs d) :
    (s.transition d).OutcomeInv := by
  have running := runs.running
  have op := runs.op
  obtain ⟨busy, done⟩ := flags.running running
  by_cases complete : s.fsm = .complete
  · obtain ⟨-, -, -, -, -, -, noReading, reading, readCo2⟩ := h
    have eq : s.transition d = s.complete s.opR := by simp [State.transition, complete, op]
    rw [eq]
    refine ⟨by simp [Fsm.onPath], by simp [Fsm.inFlush], by simp, by simp, by simp, by simp, noReading, ?_, ?_⟩
    · exact fun valid => ⟨(reading valid).1, (reading valid).2.1, .inr rfl⟩
    · exact fun _ => readCo2 (.inl complete)
  obtain ⟨status, result, resValid, ppm, temp⟩ := h.outputs_zero running complete
  obtain ⟨onPath, inFlush, -⟩ := h
  obtain ⟨-, -, -, -, -, -, validating, -⟩ := path
  cases transition_cases s d
  case accepted at_ _ => exact absurd at_ running
  case completed at_ _ => exact absurd at_ complete
  case blocked eq =>
    simpa [State.OutcomeInv, eq, done, status, result, resValid, ppm, temp, running, complete] using
      And.intro onPath inFlush
  case decoded at_ eq =>
    have err := onPath (by rw [at_]; rfl)
    have readCo2 := (validating (.inr at_)).1
    simp [State.OutcomeInv, eq, done, status, result, err, readCo2, Fsm.onPath, Fsm.inFlush]
  case fullRead at_ _ _ eq =>
    have err := onPath (by rw [at_]; rfl)
    rw [eq, op]
    split <;> simp_all [State.OutcomeInv, Fsm.onPath, Fsm.inFlush]
  case argumentLegal at_ _ eq | built at_ eq | sent at_ _ eq | fullWrite at_ _ _ eq | pollData at_ _ eq
      | pollMore at_ _ _ eq | pollSlept at_ eq | countNine at_ _ eq | validated at_ _ _ _ eq =>
    have err := onPath (by rw [at_]; rfl)
    simp [State.OutcomeInv, eq, done, status, result, resValid, ppm, temp, err, Fsm.inFlush]
  case flushed at_ _ eq | settled at_ _ eq | settleMore at_ _ _ eq | settleSlept at_ eq | drainDone at_ _ eq
      | drainEmpty at_ _ _ _ eq | drainByte at_ _ _ _ eq =>
    have err := inFlush (by rw [at_]; rfl)
    have failed : s.err ≠ 0#4 := by rintro ok; simp [ok] at err
    simp [State.OutcomeInv, eq, done, status, result, resValid, ppm, temp, err, failed, at_, Fsm.onPath]
  case argumentIllegal eq | shortWrite eq | pollBound eq | countOther eq | shortRead eq =>
    simp [State.OutcomeInv, eq, done, status, result, resValid, ppm, temp, Fsm.onPath, Fsm.inFlush]
  case badHeader eq | badChecksum eq | badEcho eq =>
    rw [eq]
    split <;> simp [State.OutcomeInv, done, status, result, resValid, ppm, temp, Fsm.onPath, Fsm.inFlush]

theorem transition_latchedLegal (running : s.fsm ≠ .idle) (d : Operation) :
    (s.transition d).latchedLegal = s.latchedLegal := by
  simp only [State.latchedLegal, transition_latches running d]

theorem pathInv_transition (h : s.PathInv) (runs : s.Runs d) : (s.transition d).PathInv := by
  have path := h
  obtain ⟨legal, -, -, -, -, written, validating, -⟩ := h
  have kept := transition_latchedLegal runs.running d
  have legal (mid : s.fsm.inFlush = true ∨ (s.fsm.onPath = true ∧ s.fsm ≠ .argchk)) :
      (s.transition d).latchedLegal = true := kept.trans (legal mid)
  cases transition_cases s d
  case accepted at_ _ => exact absurd at_ runs.running
  case blocked eq => rw [eq]; exact path
  case completed eq | argumentIllegal eq =>
    simp [State.PathInv, eq, Fsm.inFlush, Fsm.onPath, Fsm.afterFullWrite]
  case argumentLegal at_ hl eq =>
    have legal := kept.trans (runs.legal at_ hl)
    exact ⟨fun _ => legal, fun _ _ => legal, by simp [eq, Fsm.afterFullWrite]⟩
  case built at_ eq =>
    have legal := legal (by simp [at_, Fsm.onPath])
    refine ⟨fun _ => legal, fun _ _ => legal, fun _ => ?_, by simp [eq, Fsm.afterFullWrite]⟩
    rw [eq]
    exact runs.frame at_
  case fullWrite at_ _ count eq =>
    have legal := legal (by simp [at_, Fsm.onPath])
    exact ⟨fun _ => legal, fun _ _ => legal, by simp [eq, count]⟩
  case pollData at_ count eq | pollMore at_ count _ eq | pollSlept at_ eq | countNine at_ count eq =>
    have legal := legal (by simp [at_, Fsm.onPath])
    have written := written (by rw [at_]; rfl)
    exact ⟨fun _ => legal, fun _ _ => legal, by simp [*]⟩
  case fullRead at_ _ _ eq =>
    have legal := legal (by simp [at_, Fsm.onPath])
    have written := written (by rw [at_]; rfl)
    refine ⟨fun _ => legal, fun _ _ => legal, ?_⟩
    rw [eq, runs.op]
    split <;> simp [Fsm.afterFullWrite, *]
  case validated at_ header ck echo eq =>
    have legal := legal (by simp [at_, Fsm.onPath])
    have written := written (by rw [at_]; rfl)
    have readCo2 := validating (.inl at_)
    have echo : s.cfg.echoCheck = true → s.buf.b1 = 0x86 := fun on => (echo on).trans (runs.echo at_ readCo2.1)
    exact ⟨fun _ => legal, fun _ _ => legal, by simpa [eq, written, readCo2, header, ck] using echo⟩
  case badHeader at_ _ eq | badChecksum at_ _ _ eq | badEcho at_ _ _ _ eq =>
    have legal := legal (by simp [at_, Fsm.onPath])
    refine ⟨fun _ => legal, fun _ _ => legal, ?_⟩
    rw [eq]
    split <;> simp [Fsm.afterFullWrite]
  case sent at_ _ eq | shortWrite at_ _ _ eq | pollBound at_ _ _ eq | countOther at_ _ eq | shortRead at_ _ _ eq
      | decoded at_ eq =>
    have legal := legal (by simp [at_, Fsm.onPath])
    exact ⟨fun _ => legal, fun _ _ => legal, by simp [eq, Fsm.afterFullWrite]⟩
  case flushed at_ _ eq | settled at_ _ eq | settleMore at_ _ _ eq | settleSlept at_ eq | drainDone at_ _ eq
      | drainEmpty at_ _ _ _ eq | drainByte at_ _ _ _ eq =>
    have legal := legal (by simp [at_, Fsm.inFlush])
    exact ⟨fun _ => legal, fun _ _ => legal, by simp [eq, at_, Fsm.afterFullWrite]⟩

end

theorem inv_transition {s : State} {d : Operation} (h : s.Inv) (runs : s.Runs d) : (s.transition d).Inv := by
  obtain ⟨flags, ranges, poll, outcome, path⟩ := h
  exact ⟨flagsInv_transition flags runs, rangesInv_transition ranges, pollInv_transition poll,
    outcomeInv_transition outcome flags path runs, pathInv_transition path runs⟩

theorem State.Inv.pollMax {s : State} (h : s.Inv) : 1 ≤ s.cfg.pollMax := by
  obtain ⟨-, -, ⟨pollMax, -⟩, -⟩ := h
  exact pollMax

/-- The invariant says nothing of the inputs. -/
theorem inv_advance {s : State} (h : s.Inv) : s.advance.Inv := h

theorem inv_assertReset {s : State} (pollMax : 1 ≤ s.cfg.pollMax) (hung : s.hung = false) : s.assertReset.Inv := by
  refine ⟨?_, ?_, ?_, ?_, ?_⟩
  · simp [State.FlagsInv, State.reset, hung]
  · simp [State.RangesInv, State.reset]
  · simp [State.PollInv, State.reset, pollMax, Fsm.inLoop]
  · simp [State.OutcomeInv, State.reset, Fsm.onPath, Fsm.inFlush]
  · simp [State.PathInv, State.reset, Fsm.onPath, Fsm.inFlush, Fsm.afterFullWrite]

theorem inv_accept {s : State} (h : s.Inv) (hung : s.hung = false) (op : BitVec 3) (arg : Half) :
    (s.accept op arg).Inv := by
  have pollMax := h.pollMax
  obtain ⟨-, ⟨-, -, rcount, -⟩, -⟩ := h
  refine ⟨?_, ?_, ?_, ?_, ?_⟩
  · simp [State.FlagsInv, hung]
  · simp [State.RangesInv, rcount, codeOk]
  · simp [State.PollInv, pollMax, Fsm.inLoop]
  · simp [State.OutcomeInv, codeOk, Fsm.inFlush]
  · simp [State.PathInv, Fsm.inFlush, Fsm.afterFullWrite]

/-- The host may set a configuration in IDLE only, where the invariant asks of it that POLL_MAX is at least 1. -/
theorem inv_configure {s : State} {c : Config} (h : s.Inv) (free : s.busy = false) (pos : c.pollMax ≠ 0) :
    State.Inv { s with cfg := c } := by
  obtain ⟨flags, ranges, -, outcome, path⟩ := h
  have idle : s.fsm = .idle := by
    by_contra running
    simpa [free] using (flags.running running).1
  refine ⟨flags, ranges, ?_, outcome, ?_⟩
  · simp [State.PollInv, idle, Fsm.inLoop, Nat.one_le_iff_ne_zero, pos]
  · simp [State.PathInv, idle, Fsm.onPath, Fsm.inFlush, Fsm.afterFullWrite]

/-- Settles O44: the machine right after reset is what RST makes of it. -/
theorem resetMeetsTheInvariant : Obligations.ResetMeetsTheInvariant :=
  inv_assertReset (s := State.reset) (by decide) rfl

/-- Settles O45: the host's configuration move, RST, START acceptance and every engine step of the operation in progress
keep it. -/
theorem everyStepKeepsTheInvariant : Obligations.EveryStepKeepsTheInvariant := by
  intro s t h hstep
  obtain ⟨c, move, case⟩ := step_cases_config hstep
  have inv : State.Inv { s with cfg := c } := by
    obtain rfl | ⟨free, -, pos⟩ := move
    · exact h
    · exact inv_configure h free pos
  obtain rfl | ⟨hung, -, rfl⟩ | ⟨hung, -, -, op, arg, rfl⟩ | ⟨d, runs, rfl⟩ := case.coarse
  · exact inv_advance inv
  · exact inv_advance (inv_assertReset inv.pollMax hung)
  · exact inv_advance (inv_accept inv hung op arg)
  · exact inv_advance (inv_transition inv runs)

/-! A defined result under the invariant (10_state.md R43, R44, R45, R48). -/

/-- RESULT after a failure: minus its code (60_exceptions.md R247). -/
theorem resultOf_failed_toInt (op : BitVec 3) (ppm : Half) {e : BitVec 4} (failed : e ≠ 0) :
    (resultOf op e ppm).toInt = -(e.toNat : Int) := by
  have key : ∀ e : BitVec 4, (-(e.zeroExtend 32)).toInt = -(e.toNat : Int) := by decide
  rw [show resultOf op e ppm = -(e.zeroExtend 32) from if_pos failed, key]

/-- RESULT after a reading: the PPM, unsigned (60_exceptions.md R247). -/
theorem resultOf_reading_toInt (ppm : Half) : (resultOf 0 0 ppm).toInt = (ppm.toNat : Int) := by
  have bound := ppm.isLt
  have width : (ppm.zeroExtend 32).toNat = ppm.toNat := by simp; omega
  rw [show resultOf 0 0 ppm = ppm.zeroExtend 32 from rfl, BitVec.toInt_eq_toNat_of_lt (by omega), width]

theorem resultOf_setting {op : BitVec 3} (ppm : Half) (setting : op ≠ 0) : resultOf op 0 ppm = 0 :=
  if_neg setting

theorem definedResult_eq_some {s : State} {o : Outputs} (h : s.definedResult = some o) :
    s.done = true ∧ s.busy = false ∧ o = s.outputs := by
  unfold State.definedResult at h
  split at h
  · next defined => simp_all
  · cases h

/-- Settles O47: in IDLE the invariant has RESULT as COMPLETE wrote it, and RES_VALID 1 exactly after a reading. -/
theorem resultTellsFailureFromReading : Obligations.ResultTellsFailureFromReading := by
  rintro s o ⟨⟨-, doneIdle, -⟩, -, -, outcome, -⟩ defined
  obtain ⟨done, -, rfl⟩ := definedResult_eq_some defined
  obtain ⟨-, -, -, statusErr, result, -, noReading, reading, readCo2⟩ := outcome
  have idle := doneIdle done
  replace statusErr := statusErr idle
  replace result := result idle done
  rw [← statusErr] at reading readCo2
  replace readCo2 := readCo2 (.inr done)
  by_cases ok : s.status = 0#4
  · by_cases read : s.opR = 0#3
    · have value : s.result.toInt = (s.ppm.toNat : Int) := by rw [result, ok, read]; exact resultOf_reading_toInt s.ppm
      simp [State.outputs, ok, read, value, readCo2 ok read]
    · have value : s.result = 0#32 := by rw [result, ok]; exact resultOf_setting s.ppm read
      have invalid : s.resValid = false := by
        by_contra valid
        exact read (reading (by simpa using valid)).2.1
      simp [State.outputs, ok, read, value, invalid]
  · have value : s.result.toInt = -(s.status.toNat : Int) := by rw [result]; exact resultOf_failed_toInt s.opR s.ppm ok
    have code : 0 < s.status.toNat := Nat.pos_of_ne_zero fun zero => ok (BitVec.eq_of_toNat_eq zero)
    have invalid : s.resValid = false := by
      by_contra valid
      exact ok (reading (by simpa using valid)).1
    simp [State.outputs, ok, value, invalid, noReading invalid, code]

end Sys2Proof.Machine
end

section
/-! Independence (10_state.md R57, 44_operations.md R227): two states that agree on what is live answer every step
alike, and stay so. One rule for each operation of the state says that it keeps the registers alike that are live
throughout an operation; `SameRegisters.live` then asks only for the buffer or the counter the next FSM state reads. -/

namespace Sys2Proof.Machine

/-- Agreement on the registers that are live in every FSM state of an operation: all but `fsm`, BUF and the counters. -/
def SameRegisters (s t : State) : Prop :=
  s.cfg = t.cfg ∧ s.outputs = t.outputs ∧ s.hung = t.hung ∧ s.inputs = t.inputs ∧ s.tick = t.tick ∧ s.calls = t.calls ∧
    s.opR = t.opR ∧ s.argR = t.argR ∧ s.err = t.err

/-- The FSM states in which BUF and the counters are dead, whatever they hold. -/
def Fsm.readsNothing : Fsm → Bool
  | .idle | .argchk | .build | .rxRead | .cfFlush | .complete => true
  | .txWrite | .txFlush | .pollQ | .pollSleep | .availCheck | .validate | .decode | .cfPollQ | .cfPollSleep
  | .cfDrain => false

theorem Fsm.readsNothing_of_inLoop {f : Fsm} (loop : f.inLoop = true) : f.readsNothing = false := by
  cases f <;> simp_all [Fsm.inLoop, Fsm.readsNothing]

section
variable {s t : State}

theorem SameLive.busy (h : SameLive s t) : s.busy = t.busy := by
  obtain ⟨-, -, outputs, -⟩ := h
  exact congrArg Outputs.busy outputs

theorem SameLive.input (h : SameLive s t) : s.input = t.input := by
  obtain ⟨-, -, -, -, inputs, tick, -⟩ := h
  simp only [State.input, inputs, tick]

theorem SameLive.registers (h : SameLive s t) (running : s.fsm ≠ .idle) : SameRegisters s t := by
  obtain ⟨-, cfg, outputs, hung, inputs, tick, calls, latched, -⟩ := h
  exact ⟨cfg, outputs, hung, inputs, tick, calls, latched running⟩

theorem SameRegisters.issue (h : SameRegisters s t) {c c' : Call} (same : c = c') :
    SameRegisters (s.issue c) (t.issue c') := by
  obtain ⟨cfg, outputs, hung, inputs, tick, calls, latched⟩ := h
  exact ⟨cfg, outputs, hung, inputs, tick, by simp [calls, same], latched⟩

theorem SameRegisters.query (h : SameRegisters s t) : SameRegisters s.query t.query :=
  h.issue rfl

theorem SameRegisters.fail (h : SameRegisters s t) (e : Failure) : SameRegisters (s.fail e) (t.fail e) := by
  obtain ⟨cfg, outputs, hung, inputs, tick, calls, opR, argR, -⟩ := h
  exact ⟨cfg, outputs, hung, inputs, tick, calls, opR, argR, rfl⟩

theorem SameRegisters.hang (h : SameRegisters s t) : SameRegisters s.hang t.hang := by
  obtain ⟨cfg, outputs, -, rest⟩ := h
  exact ⟨cfg, outputs, rfl, rest⟩

theorem SameRegisters.checksums (h : SameRegisters s t) (buf : s.buf = t.buf) :
    SameRegisters { s with ckComputed := checksum s.buf, ckReceived := s.buf.b8 }
      { t with ckComputed := checksum t.buf, ckReceived := t.buf.b8 } := by
  simp_all [SameRegisters, State.outputs]

theorem SameRegisters.decodeReading (h : SameRegisters s t) (buf : s.buf = t.buf) :
    SameRegisters s.decodeReading t.decodeReading := by
  simp_all [SameRegisters, State.outputs]

theorem SameRegisters.complete (h : SameRegisters s t) (op : BitVec 3) :
    SameRegisters (s.complete op) (t.complete op) := by
  simp_all [SameRegisters, State.outputs]

/-- What is live in some FSM states only is asked for where one of them is next; elsewhere the default meets it. -/
theorem SameRegisters.live (h : SameRegisters s t) (fsm : s.fsm = t.fsm := by rfl)
    (buf : s.fsm = .txWrite ∨ s.fsm = .validate ∨ s.fsm = .decode → s.buf = t.buf := by rintro (h | h | h) <;> cases h)
    (wcount : s.fsm = .txFlush → s.wcount = t.wcount := by rintro ⟨⟩)
    (acount : s.fsm = .availCheck → s.acount = t.acount := by rintro ⟨⟩)
    (pollCnt : s.fsm.inLoop = true → s.pollCnt = t.pollCnt := by rintro ⟨⟩)
    (drainLeft : s.fsm = .cfDrain → s.drainLeft = t.drainLeft := by rintro ⟨⟩) : SameLive s t := by
  obtain ⟨cfg, outputs, hung, inputs, tick, calls, latched⟩ := h
  exact ⟨fsm, cfg, outputs, hung, inputs, tick, calls, fun _ => latched, buf, wcount, acount, pollCnt, drainLeft⟩

theorem SameRegisters.live_goto (h : SameRegisters s t) {f : Fsm} (nothing : f.readsNothing = true) :
    SameLive (s.goto f) (t.goto f) := by
  have dead {P : Prop} (at_ : f.readsNothing = false) : P := by rw [nothing] at at_; cases at_
  refine SameRegisters.live (s := s.goto f) (t := t.goto f) h rfl ?_ ?_ ?_ ?_ ?_
  · rintro (rfl | rfl | rfl) <;> exact dead rfl
  · rintro rfl; exact dead rfl
  · rintro rfl; exact dead rfl
  · exact fun loop => dead (Fsm.readsNothing_of_inLoop loop)
  · rintro rfl; exact dead rfl

theorem SameLive.ite {p q : Prop} [Decidable p] [Decidable q] {s' t' : State} (same : p ↔ q)
    (yes : p → SameLive s t) (no : ¬p → SameLive s' t') :
    SameLive (if p then s else s') (if q then t else t') := by
  by_cases hp : p
  · simpa only [if_pos hp, if_pos (same.mp hp)] using yes hp
  · simpa only [if_neg hp, if_neg (mt same.mpr hp)] using no hp

theorem SameRegisters.live_fail (h : SameRegisters s t) (e : Failure) : SameLive (s.fail e) (t.fail e) := by
  have nothing : (failureRoute s.cfg e).readsNothing = true := by
    unfold failureRoute
    split
    · rfl
    · rfl
    · split <;> rfl
  have ⟨cfg, _⟩ := h
  have target : t.fail e = (t.fail e).goto (failureRoute s.cfg e) := by rw [cfg]; rfl
  rw [target]
  exact (h.fail e).live_goto nothing

theorem SameLive.hang (h : SameLive s t) (running : s.fsm ≠ .idle) {c c' : Call} (same : c = c') :
    SameLive (s.issue c).hang (t.issue c').hang := by
  have regs := ((h.registers running).issue same).hang
  obtain ⟨fsm, -, -, -, -, -, -, -, dead⟩ := h
  obtain ⟨buf, wcount, acount, pollCnt, drainLeft⟩ := dead
  exact regs.live fsm buf wcount acount pollCnt drainLeft

theorem SameLive.transition (h : SameLive s t) (running : s.fsm ≠ .idle) (d : Operation) :
    SameLive (s.transition d) (t.transition d) := by
  have live := h
  have input := h.input
  have regs := h.registers running
  have hang {c c' : Call} (same : c = c') := h.hang running same
  obtain ⟨fsm, cfg, -, -, -, -, -, -, buf, wcount, acount, pollCnt, drainLeft⟩ := h
  have available : s.query.acount = t.query.acount := congrArg Input.available input
  have returns : s.input.returns = true ↔ t.input.returns = true := by rw [input]
  cases hf : s.fsm <;> simp only [hf] at fsm buf wcount acount pollCnt drainLeft <;>
    simp only [State.transition, hf, ← fsm]
  case idle => exact absurd hf running
  case argchk => exact .ite .rfl (fun _ => regs.live_goto rfl) fun _ => regs.live_fail _
  case build => exact SameRegisters.live regs (buf := fun _ => rfl)
  case txWrite =>
    have buf := buf (.inl trivial)
    simp only [State.txWrite]
    refine .ite returns (fun _ => ?_) fun _ => hang (by rw [buf])
    exact SameRegisters.live (regs.issue (by rw [buf])) (wcount := fun _ => congrArg Input.written input)
  case txFlush =>
    simp only [State.txFlush]
    refine .ite returns (fun _ => .ite (by rw [wcount trivial]) (fun _ => ?_) fun _ => ?_) fun _ => hang rfl
    · exact (regs.issue rfl).live_fail _
    · exact SameRegisters.live (regs.issue rfl) (pollCnt := fun _ => rfl)
  case pollQ =>
    have count : s.query.pollCnt = t.query.pollCnt := congrArg (· + 1) (pollCnt rfl)
    simp only [State.pollQ]
    refine .ite (by rw [available]) (fun _ => ?_) fun _ => .ite ?_ (fun _ => ?_) fun _ => ?_
    · exact SameRegisters.live regs.query (acount := fun _ => available)
    · rw [count, State.query_cfg, State.query_cfg, cfg]
    · exact regs.query.live_fail _
    · exact SameRegisters.live regs.query (pollCnt := fun _ => count)
  case pollSleep => exact SameRegisters.live (regs.issue (by rw [cfg])) (pollCnt := fun _ => pollCnt rfl)
  case availCheck =>
    exact .ite (by rw [acount trivial]) (fun _ => regs.live_goto rfl) fun _ => regs.live_fail _
  case rxRead =>
    simp only [State.rxRead]
    refine .ite returns (fun _ => .ite (by rw [input]) (fun _ => ?_) fun full => .ite .rfl (fun _ => ?_) fun _ => ?_)
      fun _ => hang rfl
    · apply SameRegisters.live_fail
      exact regs.issue rfl
    · rw [input]
      refine SameRegisters.live (regs.issue rfl) (buf := fun _ => placeReceived_full s.buf t.buf _ ?_)
      simpa [keptCount, frameLen, input] using full
    · exact SameRegisters.live (regs.issue rfl)
  case validate =>
    have buf := buf (.inr (.inl trivial))
    have checked := regs.checksums buf
    simp only [State.validate]
    refine .ite (by rw [buf]) (fun _ => regs.live_fail _) fun _ => .ite (by rw [buf]) (fun _ => checked.live_fail _)
      fun _ => .ite (by rw [buf, cfg]) (fun _ => checked.live_fail _) fun _ => ?_
    exact SameRegisters.live checked (buf := fun _ => buf)
  case decode =>
    exact SameRegisters.live (regs.decodeReading (buf (.inr (.inr trivial))))
  case cfFlush =>
    simp only [State.cfFlush]
    refine .ite returns (fun _ => ?_) fun _ => hang rfl
    exact SameRegisters.live (regs.issue rfl) (pollCnt := fun _ => rfl)
  case cfPollQ =>
    have count : s.query.pollCnt = t.query.pollCnt := congrArg (· + 1) (pollCnt rfl)
    simp only [State.cfPollQ]
    refine .ite ?_ (fun _ => ?_) fun _ => ?_
    · rw [available, count, State.query_cfg, State.query_cfg, cfg]
    · exact SameRegisters.live regs.query (drainLeft := fun _ => available)
    · exact SameRegisters.live regs.query (pollCnt := fun _ => count)
  case cfPollSleep => exact SameRegisters.live (regs.issue (by rw [cfg])) (pollCnt := fun _ => pollCnt rfl)
  case cfDrain =>
    have drainLeft := drainLeft trivial
    simp only [State.cfDrain]
    refine .ite (by rw [drainLeft]) (fun _ => regs.live_goto rfl) fun _ => .ite returns (fun _ => ?_) fun _ => hang rfl
    rw [input]
    cases t.input.drained with
    | none => exact (regs.issue rfl).live_goto rfl
    | some b =>
      obtain ⟨fsm, -, -, -, -, -, -, -, buf, wcount, acount, pollCnt, -⟩ := live
      exact SameRegisters.live (regs.issue rfl) fsm buf wcount acount pollCnt fun _ => congrArg (· - 1) drainLeft
  case complete => exact SameRegisters.live (regs.complete d.op)

theorem SameLive.advance (h : SameLive s t) : SameLive s.advance t.advance := by
  obtain ⟨fsm, cfg, outputs, hung, inputs, tick, rest⟩ := h
  exact ⟨fsm, cfg, outputs, hung, congrArg List.tail inputs, congrArg (· + 1) tick, rest⟩

theorem SameLive.assertReset (h : SameLive s t) : SameLive s.assertReset t.assertReset := by
  obtain ⟨-, cfg, -, hung, inputs, tick, calls, -⟩ := h
  exact SameRegisters.live ⟨cfg, rfl, hung, inputs, tick, calls, rfl, rfl, rfl⟩

/-- START acceptance makes alike any two engines in the same surroundings. -/
theorem sameLive_accept (cfg : s.cfg = t.cfg) (hung : s.hung = t.hung) (inputs : s.inputs = t.inputs)
    (tick : s.tick = t.tick) (calls : s.calls = t.calls) (op : BitVec 3) (arg : Half) :
    SameLive (s.accept op arg) (t.accept op arg) :=
  SameRegisters.live ⟨cfg, rfl, hung, inputs, tick, calls, rfl, rfl, rfl⟩

theorem runReserved_of_running (running : s.fsm ≠ .idle) (op : BitVec 3) (arg : Half) :
    runReserved op arg s =
      if s.fsm = .argchk ∨ s.fsm = .complete then .next (s.transition (reservedOperation op arg)).advance
      else .fault .reservedOpcodeInExchange := by
  cases hf : s.fsm <;> simp only [runReserved, State.transition, hf]
  case idle => exact absurd hf running
  all_goals simp [reservedOperation]

theorem SameLive.configure {s1 : State} (h : SameLive s t) (hs : s.configure = .ok s1) :
    ∃ t1, t.configure = .ok t1 ∧ SameLive s1 t1 := by
  obtain ⟨config, rfl⟩ | ⟨c, config, free, pos, rfl⟩ := configure_cases hs
  · exact ⟨t, configure_none (h.input ▸ config), h⟩
  · refine ⟨_, configure_taken (h.input ▸ config) (h.busy ▸ free) (Nat.pos_of_ne_zero pos), ?_⟩
    obtain ⟨fsm, -, rest⟩ := h
    exact ⟨fsm, rfl, rest⟩

/-- If the one step answers a next state, so does the other, and the two states agree on what is live. -/
def SameOutcome (o p : Host.Outcome State Fault Refusal) : Prop :=
  ∀ s, o = .next s → ∃ t, p = .next t ∧ SameLive s t

theorem SameOutcome.next (h : SameLive s t) : SameOutcome (.next s) (.next t) := by
  rintro _ ⟨⟩
  exact ⟨t, rfl, h⟩

theorem SameOutcome.fault (r : Fault) (p : Host.Outcome State Fault Refusal) : SameOutcome (.fault r) p := by
  rintro _ ⟨⟩

theorem SameOutcome.ite {p q : Prop} [Decidable p] [Decidable q] {a b a' b' : Host.Outcome State Fault Refusal}
    (same : p ↔ q) (yes : p → SameOutcome a b) (no : ¬p → SameOutcome a' b') :
    SameOutcome (if p then a else a') (if q then b else b') := by
  by_cases hp : p
  · simpa only [if_pos hp, if_pos (same.mp hp)] using yes hp
  · simpa only [if_neg hp, if_neg (mt same.mpr hp)] using no hp

theorem SameLive.runReserved (h : SameLive s t) (running : s.fsm ≠ .idle) (op : BitVec 3) (arg : Half) :
    SameOutcome (runReserved op arg s) (runReserved op arg t) := by
  have ⟨fsm, _⟩ := h
  rw [runReserved_of_running running, runReserved_of_running (fsm ▸ running)]
  exact .ite (by rw [fsm]) (fun _ => .next (h.transition running _).advance) fun _ => .fault _ _

theorem SameLive.stepOn (h : SameLive s t) : SameOutcome (stepOn s) (stepOn t) := by
  have input := h.input
  have ⟨fsm, cfg, _, hung, inputs, tick, calls, latched, _⟩ := h
  unfold Machine.stepOn
  refine .ite (by rw [hung]) (fun _ => .next h.advance) fun _ => ?_
  refine .ite (by rw [input]) (fun _ => .next h.assertReset.advance) fun _ => ?_
  refine .ite (by rw [fsm]) (fun _ => .ite (by rw [input]) (fun _ => ?_) fun _ => .next h.advance) fun running => ?_
  · rw [input]
    exact .next (sameLive_accept cfg hung inputs tick calls _ _).advance
  · obtain ⟨opR, argR, -⟩ := latched running
    rw [← opR, ← argR, ← cfg]
    cases decodeFields s.opR s.argR with
    | ok i => exact .next (h.transition running _).advance
    | error e => exact h.runReserved running _ _

/-- Settles O57: the host's configuration move, RST, START acceptance and every engine step answer alike in two states
that agree on what is live. -/
theorem deadRegistersInfluenceNothing : Obligations.DeadRegistersInfluenceNothing := by
  intro s t s1 h hs
  obtain ⟨s', configured, -⟩ := step_cases hs
  obtain ⟨t', configuredT, h'⟩ := h.configure configured
  rw [step_configured configured] at hs
  rw [step_configured configuredT]
  exact h'.stepOn s1 hs

/-! A later operation after an accepted START (44_operations.md R227). -/

/-- The inversion lemma of a run of one step and more. -/
theorem run_succ_next {k : Nat} (h : s.run (k + 1) = .next t) : ∃ s1, step s = .next s1 ∧ s1.run k = .next t := by
  cases hs : step s with
  | next s1 => exact ⟨s1, rfl, (run_succ k hs).symm.trans h⟩
  | fault r => simp [State.run, Host.Core.run, Sys2Proof.core, hs] at h
  | refused r => simp [State.run, Host.Core.run, Sys2Proof.core, hs] at h

theorem SameLive.run {s1 : State} (h : SameLive s t) (k : Nat) (hs : s.run k = .next s1) :
    ∃ t1, t.run k = .next t1 ∧ SameLive s1 t1 := by
  induction k generalizing s t with
  | zero => exact SameOutcome.next h s1 hs
  | succ k ih =>
    obtain ⟨s', first, rest⟩ := run_succ_next hs
    obtain ⟨t', firstT, h'⟩ := deadRegistersInfluenceNothing s t s' h first
    obtain ⟨t1, restT, h1⟩ := ih h' rest
    exact ⟨t1, (run_succ k firstT).trans restT, h1⟩

end

/-- Settles O58: START acceptance makes the two engines agree on what is live, and every later step keeps that. -/
theorem operationsAreIndependent : Obligations.OperationsAreIndependent := by
  rintro n s t s1 w ⟨idleS, hungS⟩ ⟨idleT, hungT⟩ cfg inputs tick calls ⟨rst, config, start, -⟩ run
  have input : s.input = t.input := by simp only [State.input, inputs, tick]
  have first := step_accepts hungS rst config idleS start
  rw [input] at rst config start
  have firstT := step_accepts hungT rst config idleT start
  have same := (sameLive_accept cfg (hungS.trans hungT.symm) inputs tick calls
    (wordOp s.input.cmdWord) (wordArg s.input.cmdWord)).advance
  rw [run_succ n first] at run
  obtain ⟨t1, runT, fsm, -, outputs, -, -, -, calls1, -⟩ := same.run n run
  exact ⟨t1, by rw [run_succ n firstT, ← input, runT], outputs, calls1, fsm⟩

end Sys2Proof.Machine
end

section
/-! Which operation a step runs, the wait in IDLE, and RST (44_operations.md R220, 70_reset_and_hazards.md R270). -/

namespace Sys2Proof.Machine

/-- START acceptance of an operation CMD_WORD names is its meaning. -/
theorem stepOn_started {s : State} {i : Instr} (hung : s.hung = false) (rst : s.input.rst = false)
    (idle : s.fsm = .idle) (start : s.input.start = true) (dec : decode s.input.cmdWord = .ok i) :
    stepOn s = exec i s := by
  obtain ⟨op, arg⟩ := decodeFields_ok dec
  simp [stepOn, hung, rst, idle, start, exec_eq, State.transition, op, arg]

theorem decode_of_decodeTableWord {nbits w : Nat} {i : Instr} (h : decodeTableWord nbits w = some i) :
    decode (tableWord nbits w) = .ok i := by
  unfold decodeTableWord at h
  split at h
  · split at h
    · next dec => cases h; exact dec
    · cases h
  · cases h

/-- Settles O17: each clause fixes the configuration in force and where the operation comes from. -/
theorem stepRunsTheNamedOperation : Obligations.StepRunsTheNamedOperation := by
  refine ⟨?_, ?_, ?_, ?_⟩
  · rintro s w i ⟨idle, hung⟩ ⟨rst, config, start, word⟩ dec
    rw [step_configured (configure_none config), stepOn_started hung rst idle start (word ▸ dec)]
  · rintro s c w i ⟨idle, hung⟩ free rst start word config pos dec
    rw [step_configured (configure_taken config free pos)]
    exact stepOn_started (s := { s with cfg := c }) hung rst idle start (word ▸ dec)
  · intro s i running hung rst config dec
    rw [step_running hung rst config running dec, exec_eq]
  · intro s w i dec
    rw [step_configured (configure_none rfl)]
    exact stepOn_started rfl rfl rfl rfl (decode_of_decodeTableWord dec)

/-- Settles O20: with nothing on the pins, `stepOn` answers the state with its input used up. -/
theorem idleWaitsForStart : Obligations.IdleWaitsForStart := by
  rintro s ⟨idle, hung⟩ rst config start
  rw [step_configured (configure_none config)]
  simp only [stepOn, hung, rst, idle, start, Bool.false_eq_true, if_false, if_true]
  rfl

/-- Settles O54: RST comes before every other pin, and `State.assertReset` writes the values of R60. -/
theorem resetAbandonsTheOperation : Obligations.ResetAbandonsTheOperation := by
  refine ⟨fun s hung rst config => ?_, rfl⟩
  rw [step_configured (configure_none config)]
  simp only [stepOn, hung, rst, Bool.false_eq_true, if_false, if_true]
  simp only [State.assertReset, hung]
  rfl

end Sys2Proof.Machine
end

section
/-! The call of an engine step (20_memory.md R75, R80), and the drain of the cache flush against the reference transport
of R86 (42_transport_exchange.md R173, R179). -/

namespace Sys2Proof.Machine

/-- An engine step of an operation makes the call its FSM state names, whatever the transport answers. -/
theorem transition_calls (s : State) (d : Operation) : (s.transition d).calls = s.nextCall.toList ++ s.calls := by
  cases transition_cases s d
  case blocked call _ eq => simp [eq, call]
  case drainDone at_ left eq => simp [eq, State.nextCall, at_, left]
  case drainEmpty at_ left _ _ eq => simp [eq, State.nextCall, at_, left]
  case drainByte at_ left _ _ eq => simp [eq, State.nextCall, at_, left]
  all_goals next eq => simp [eq, State.nextCall, ‹s.fsm = _›, frameLen]

/-- Settles O59: an engine step of an operation makes its call by `transition_calls`; in IDLE, and for a reserved OP in
ARGCHK and COMPLETE, there is none to make. -/
theorem stepMakesExactlyItsCall : Obligations.StepMakesExactlyItsCall := by
  intro s t config h
  cases step_cases_of_none config h with
  | hanging hung eq => simp [eq, hung]
  | reset _ rst eq => simp [eq, rst]
  | waiting hung rst idle _ eq => simp [eq, hung, rst, State.nextCall, idle]
  | accepted hung rst idle _ eq => simp [eq, hung, rst, State.nextCall, idle]
  | running i hung rst _ _ eq => simp [eq, hung, rst, transition_calls]
  | rejected hung rst argchk _ eq => simp [eq, hung, rst, State.nextCall, argchk]
  | reservedDone hung rst complete _ eq => simp [eq, hung, rst, State.nextCall, complete]

/-! The machine beside the reference transport. -/

/-- The transport answers a call and leaves the host's pins alone. -/
theorem RefTransport.answer_pins (t : RefTransport) (script : SensorScript) (c : Call) (x : Input) :
    (t.answer script c x).1.rst = x.rst ∧ (t.answer script c x).1.config = x.config := by
  cases c <;> exact ⟨rfl, rfl⟩

/-- The pins `x` with the transport's answer to the call the FSM state names, and the transport after it. -/
def Bench.answered (b : Bench) (script : SensorScript) (x : Input) : Input × RefTransport :=
  match b.machine.nextCall with
  | none => (x, b.transport)
  | some c => b.transport.answer script c x

theorem Bench.answered_silent {b : Bench} (script : SensorScript) (x : Input) (silent : b.machine.nextCall = none) :
    b.answered script x = (x, b.transport) := by
  simp [Bench.answered, silent]

theorem Bench.answered_call {b : Bench} {c : Call} (script : SensorScript) (x : Input)
    (call : b.machine.nextCall = some c) : b.answered script x = b.transport.answer script c x := by
  simp [Bench.answered, call]

theorem Bench.answered_pins (b : Bench) (script : SensorScript) (x : Input) :
    (b.answered script x).1.rst = x.rst ∧ (b.answered script x).1.config = x.config := by
  cases call : b.machine.nextCall with
  | none => simp [Bench.answered_silent script x call]
  | some c => simpa only [Bench.answered_call script x call] using b.transport.answer_pins script c x

theorem Bench.run_cons {b b1 : Bench} {script : SensorScript} {x : Input} (xs : List Input)
    (h : b.step script x = .next b1) : b.run script (x :: xs) = b1.run script xs := by
  simp only [Bench.run, h]

/-- A step beside the transport is the machine's own, with the transport's answer as its input. -/
theorem Bench.step_next {b : Bench} {script : SensorScript} {x : Input} {s : State} (hung : b.machine.hung = false)
    (rst : x.rst = false) (h : Machine.step (b.machine.withInputs [(b.answered script x).1]) = .next s) :
    b.step script x = .next { machine := s, transport := (b.answered script x).2 } := by
  have free : (x.rst || b.machine.hung) = false := by simp [rst, hung]
  cases call : b.machine.nextCall with
  | none =>
    simp only [Bench.answered_silent script x call, State.withInputs] at h ⊢
    simp only [Bench.step, free, Bool.false_eq_true, if_false, call, h]
  | some c =>
    simp only [Bench.answered_call script x call, State.withInputs] at h ⊢
    simp only [Bench.step, free, Bool.false_eq_true, if_false, call, h]

/-- CF_DRAIN with DRAIN_LEFT above 0, when the read answers a byte (42_transport_exchange.md R173). -/
theorem cfDrain_byte {s : State} {n : Nat} {y : Byte} (left : s.drainLeft = n + 1) (returns : s.input.returns = true)
    (byte : s.input.drained = some y) :
    s.cfDrain = { s with drainLeft := n, calls := .read :: s.calls } := by
  simp [State.cfDrain, left, returns, byte, State.issue]

/-- A bench whose engine is in CF_DRAIN of one of the five operations, in no call that never returned. -/
structure Bench.Draining (b : Bench) : Prop where
  at_ : b.machine.fsm = .cfDrain
  hung : b.machine.hung = false
  op : b.machine.opR.toNat ≤ 4

section
variable {b : Bench} {script : SensorScript} {x : Input} (draining : b.Draining) (rst : x.rst = false)
  (config : x.config = none)
include draining rst config

/-- In CF_DRAIN only RST and a new configuration would keep the engine from its step. -/
theorem Bench.Draining.step :
    b.step script x = .next {
      machine := (b.machine.withInputs [(b.answered script x).1]).cfDrain.advance
      transport := (b.answered script x).2 } := by
  obtain ⟨at_, hung, op⟩ := draining
  obtain ⟨i, dec⟩ := decodeFields_of_le b.machine.argR op
  obtain ⟨pinRst, pinConfig⟩ := b.answered_pins script x
  refine Bench.step_next hung rst ?_
  rw [step_running (s := b.machine.withInputs [(b.answered script x).1]) hung (pinRst.trans rst)
    (pinConfig.trans config) (by simp [at_]) dec]
  simp only [State.transition, State.withInputs_fsm, at_]

/-- With DRAIN_LEFT = 0 the step calls nothing and goes to COMPLETE. -/
theorem Bench.Draining.step_done (left : b.machine.drainLeft = 0) :
    b.step script x = .next { b with machine := ((b.machine.withInputs [x]).goto .complete).advance } := by
  have silent : b.machine.nextCall = none := by simp [State.nextCall, draining.at_, left]
  rw [draining.step rst config, Bench.answered_silent script x silent]
  simp only [State.cfDrain, State.withInputs, left, if_true]

/-- With DRAIN_LEFT above 0 the step takes the first byte of the queue and counts it. -/
theorem Bench.Draining.step_byte {n : Nat} (left : b.machine.drainLeft = n + 1) (queued : b.transport.queue ≠ []) :
    ∃ b1, b.step script x = .next b1 ∧ b1.Draining ∧ b1.machine.drainLeft = n ∧ b1.machine.err = b.machine.err ∧
      b1.machine.buf = b.machine.buf ∧ b1.transport = { b.transport with queue := b.transport.queue.tail } := by
  have call : b.machine.nextCall = some .read := by simp [State.nextCall, draining.at_, left]
  obtain ⟨y, byte⟩ := Option.isSome_iff_exists.mp (List.isSome_head?.mpr queued)
  rw [draining.step rst config, Bench.answered_call script x call,
    cfDrain_byte (s := b.machine.withInputs [(b.transport.answer script .read x).1]) left rfl byte]
  exact ⟨_, rfl, ⟨draining.at_, draining.hung, draining.op⟩, rfl, rfl, rfl, rfl⟩

end

/-- Settles O43, by induction on DRAIN_LEFT: each step of the drain takes the queue's first byte, and the last one goes to
COMPLETE. -/
theorem drainEmptiesTheReferenceQueue : Obligations.DrainEmptiesTheReferenceQueue := by
  intro script b pins at_ hung op left length undisturbed
  have draining : b.Draining := ⟨at_, hung, op⟩
  clear at_ hung op
  generalize count : b.machine.drainLeft = n at left length ⊢
  induction n generalizing b pins with
  | zero =>
    obtain ⟨x, rfl⟩ := List.length_eq_one_iff.mp length
    obtain ⟨rst, config⟩ := undisturbed x (by simp)
    exact ⟨_, Bench.run_cons [] (draining.step_done rst config count), rfl, count, rfl, rfl, rfl⟩
  | succ n ih =>
    obtain ⟨x, xs, rfl⟩ := List.exists_cons_of_length_eq_add_one length
    obtain ⟨rst, config⟩ := undisturbed x (by simp)
    obtain ⟨b1, step, draining1, count1, err, buf, transport⟩ :=
      draining.step_byte (script := script) rst config count (List.ne_nil_of_length_pos (by omega))
    obtain ⟨t, run, fsm, drainLeft, errT, bufT, transportT⟩ :=
      ih b1 xs (fun y hy => undisturbed y (by simp [hy])) draining1 count1 (by simp [transport]; omega)
        (by simpa using length)
    refine ⟨t, (Bench.run_cons xs step).trans run, fsm, drainLeft, errT.trans err, bufT.trans buf, ?_⟩
    simp [transportT, transport]

end Sys2Proof.Machine
end

section
/-! The host command word (30_encoding.md R100 to R103, R113, R114). Decoding reads the fields OP and ARG and nothing else,
and encoding writes them. -/

namespace Sys2Proof

theorem wordOp_eq_ofNat (w : Word) : wordOp w = BitVec.ofNat 3 (w.toNat / 65536 % 8) :=
  BitVec.eq_of_toNat_eq (by simp [wordOp_toNat])

theorem wordArg_eq_ofNat (w : Word) : wordArg w = BitVec.ofNat 16 (w.toNat % 65536) :=
  BitVec.eq_of_toNat_eq (by simp [wordArg_toNat])

theorem decode_eq_decodeFields_ofNat (w : Word) :
    decode w = decodeFields (BitVec.ofNat 3 (w.toNat / 65536 % 8)) (BitVec.ofNat 16 (w.toNat % 65536)) := by
  rw [decode, wordOp_eq_ofNat, wordArg_eq_ofNat]

/-- The fields of an operation name it. -/
@[simp] theorem decodeFields_op_arg (i : Instr) : decodeFields i.op i.arg = .ok i := by
  cases i <;> rfl

theorem decodeFields_reserved {op : BitVec 3} (arg : Half) (reserved : 5 ≤ op.toNat) :
    decodeFields op arg = .error (.reservedOp op) := by
  have bound := op.isLt
  obtain h | h | h : op.toNat = 5 ∨ op.toNat = 6 ∨ op.toNat = 7 := by omega
  all_goals simp [decodeFields, h]

/-- Words that agree on bits 18:0 decode alike. -/
theorem decode_congr {v w : Word} (same : ∀ k < 19, v.getLsbD k = w.getLsbD k) : decode v = decode w := by
  have op : wordOp v = wordOp w := by
    apply BitVec.eq_of_getLsbD_eq
    intro k hk
    simpa [wordOp, hk] using same (16 + k) (by omega)
  have arg : wordArg v = wordArg w := by
    apply BitVec.eq_of_getLsbD_eq
    intro k hk
    simpa [wordArg, hk] using same k (by omega)
  rw [decode, decode, op, arg]

/-- The word of an operation whose ARG is given as a number. -/
theorem encode_eq_ofNat {i : Instr} {base n : Nat} (op : i.op.toNat * 65536 = base) (arg : i.arg = BitVec.ofNat 16 n)
    (fits : n < 65536) : encode i = BitVec.ofNat 32 (base + n) := by
  have code := i.op.isLt
  apply BitVec.eq_of_toNat_eq
  rw [encode_toNat, op, arg, BitVec.toNat_ofNat, BitVec.toNat_ofNat, Nat.mod_eq_of_lt fits,
    Nat.mod_eq_of_lt (by omega)]

/-! Assembler lines with an operand (30_encoding.md R113). -/

theorem AsmLine.instr_calSpan (n : Nat) :
    (AsmLine.calSpan n).instr = if n < 65536 then some (.calSpan (BitVec.ofNat 16 n)) else none := by
  simp [AsmLine.instr, AsmLine.wellFormed]

theorem AsmLine.instr_setAbc (n : Nat) :
    (AsmLine.setAbc n).instr = if n < 65536 then some (.setAbc (BitVec.ofNat 16 n)) else none := by
  simp [AsmLine.instr, AsmLine.wellFormed]

theorem AsmLine.instr_setRange (n : Nat) :
    (AsmLine.setRange n).instr = if n < 65536 then some (.setRange (BitVec.ofNat 16 n)) else none := by
  simp [AsmLine.instr, AsmLine.wellFormed]

/-- The word of an operation that is there only if its operand fits ARG. -/
theorem map_encode_operand {i : Instr} {base n : Nat} (op : i.op.toNat * 65536 = base)
    (arg : i.arg = BitVec.ofNat 16 n) :
    (if n < 65536 then some i else none).map encode =
      if n < 65536 then some (BitVec.ofNat 32 (base + n)) else none := by
  by_cases fits : n < 65536
  · simp only [if_pos fits, Option.map_some, encode_eq_ofNat op arg fits]
  · simp only [if_neg fits, Option.map_none]

/-! The statements. -/

/-- Settles O3: encoding writes the fields decoding reads, and the word as a number has nothing above OP. -/
theorem decodeOfEncodeIsTheOperation : Obligations.DecodeOfEncodeIsTheOperation := by
  intro i
  refine ⟨by rw [decode, wordOp_encode, wordArg_encode, decodeFields_op_arg], ?_⟩
  have op := i.op.isLt
  have arg := i.arg.isLt
  rw [encode_toNat]
  omega

/-- Settles O1: the fields of a word are quotient and remainder by 65536. -/
theorem hostWordDecodesByItsFields : Obligations.HostWordDecodesByItsFields := by
  intro w op arg
  have fields : decode w = decodeFields (BitVec.ofNat 3 op) arg := decode_eq_decodeFields_ofNat w
  have enabled : Machine.abcEnabled arg = decide (w.toNat % 2 = 1) := by
    simp [Machine.abcEnabled, arg, -BitVec.getLsbD_eq_getElem, BitVec.getLsbD_ofNat, Nat.testBit_zero]
  refine ⟨fun h => ?_, fun h => ?_, fun h => ?_, fun h => ⟨?_, enabled⟩, fun h => ?_, fun h => ?_⟩
  case refine_6 =>
    have small : op < 8 := Nat.mod_lt _ (by decide)
    rw [fields, decodeFields_reserved]
    rwa [BitVec.toNat_ofNat, Nat.mod_eq_of_lt small]
  all_goals rw [fields, h]; rfl

/-- Settles O2: RSVD lies above the bits decoding reads. -/
theorem reservedWordBitsAreIgnored : Obligations.ReservedWordBitsAreIgnored := by
  intro w r
  apply decode_congr
  intro k hk
  simp [hk]

/-- Settles O4: both sides are the word modulo `2 ^ 19`. -/
theorem encodeOfDecodeIsTheWordWithoutRsvd : Obligations.EncodeOfDecodeIsTheWordWithoutRsvd := by
  intro w i dec
  obtain ⟨op, arg⟩ := Machine.decodeFields_ok dec
  have masked : (w &&& 0x0007FFFF#32).toNat = w.toNat % 2 ^ 19 := Nat.and_two_pow_sub_one_eq_mod w.toNat 19
  apply BitVec.eq_of_toNat_eq
  rw [encode_toNat, op, arg, wordOp_toNat, wordArg_toNat, masked]
  omega

/-- Settles O5: twelve closed words, evaluated. -/
theorem listedWordsDecodeRight : Obligations.ListedWordsDecodeRight := by
  unfold Obligations.ListedWordsDecodeRight
  decide

/-- Settles O6: the lines without a number are closed; a number that fits ARG stands in the low half of its word. -/
theorem assemblerLinesGiveTheirWords : Obligations.AssemblerLinesGiveTheirWords := by
  refine ⟨by decide, by decide, by decide, by decide, by decide, by decide, fun n => ⟨?_, ?_, ?_⟩⟩
  · rw [AsmLine.instr_calSpan]
    exact map_encode_operand (by simp [Instr.op]) rfl
  · rw [AsmLine.instr_setAbc]
    exact map_encode_operand (by simp [Instr.op]) rfl
  · rw [AsmLine.instr_setRange]
    exact map_encode_operand (by simp [Instr.op]) rfl

end Sys2Proof
end

section
/-! The command frame a monitor reads (30_encoding.md R104, R105, R107, R115): its bytes 2, 3 and 4 determine it. -/

namespace Sys2Proof

open Machine

theorem hi8_ofNat (a b : Byte) : hi8 (BitVec.ofNat 16 (256 * a.toNat + b.toNat)) = a := by
  have ha := a.isLt
  have hb := b.isLt
  apply BitVec.eq_of_toNat_eq
  rw [hi8_toNat, BitVec.toNat_ofNat]
  omega

theorem lo8_ofNat (a b : Byte) : lo8 (BitVec.ofNat 16 (256 * a.toNat + b.toNat)) = b := by
  have ha := a.isLt
  have hb := b.isLt
  apply BitVec.eq_of_toNat_eq
  rw [lo8_toNat, BitVec.toNat_ofNat]
  omega

/-- The command bytes differ, each from those of the rows before it (00_scope.md R7). -/
theorem Config.wellFormed_distinct {c : Config} (h : c.wellFormed = true) :
    c.cmdZero ≠ cmdRead ∧ (c.cmdSpan ≠ cmdRead ∧ c.cmdSpan ≠ c.cmdZero) ∧
      (c.cmdAbc ≠ cmdRead ∧ c.cmdAbc ≠ c.cmdZero ∧ c.cmdAbc ≠ c.cmdSpan) ∧
      c.cmdRange ≠ cmdRead ∧ c.cmdRange ≠ c.cmdZero ∧ c.cmdRange ≠ c.cmdSpan ∧ c.cmdRange ≠ c.cmdAbc := by
  have nodup : c.commandBytes.Nodup := by
    simp only [Config.wellFormed, Bool.and_eq_true, decide_eq_true_eq] at h
    exact h.2
  simp only [Config.commandBytes, List.nodup_cons, List.mem_cons, List.not_mem_nil, not_or, or_false] at nodup
  obtain ⟨⟨zero, span, abc, range⟩, ⟨zeroSpan, zeroAbc, zeroRange⟩, ⟨spanAbc, spanRange⟩, abcRange, -⟩ := nodup
  exact ⟨Ne.symm zero, ⟨Ne.symm span, Ne.symm zeroSpan⟩, ⟨Ne.symm abc, Ne.symm zeroAbc, Ne.symm spanAbc⟩,
    Ne.symm range, Ne.symm zeroRange, Ne.symm spanRange, Ne.symm abcRange⟩

/-- A well-formed command frame is the one BUILD makes of its bytes 2, 3 and 4. -/
theorem commandFrame_of_isCommandFrame {f : Frame} {cmd d0 d1 : Byte} (ok : isCommandFrame f = true) (b2 : f.b2 = cmd)
    (b3 : f.b3 = d0) (b4 : f.b4 = d1) : commandFrame cmd d0 d1 = f := by
  obtain ⟨f0, f1, f2, f3, f4, f5, f6, f7, f8⟩ := f
  simp only [isCommandFrame, verify, Bool.and_eq_true, beq_iff_eq] at ok b2 b3 b4
  obtain ⟨⟨⟨⟨⟨rfl, rfl⟩, rfl⟩, rfl⟩, rfl⟩, ck⟩ := ok
  subst b2 b3 b4
  rw [← ck]
  rfl

@[simp] theorem isCommandFrame_encodeFrame (c : Config) (i : Instr) : isCommandFrame (encodeFrame c i) = true := by
  cases i <;> exact isCommandFrame_commandFrame _ _ _

/-- Settles O7: the frame is well formed, the distinct command bytes leave the operation's own row, and that row reads the
argument from bytes 3 and 4. -/
theorem commandFrameShowsItsOperation : Obligations.CommandFrameShowsItsOperation := by
  intro c i wf
  obtain ⟨zero, span, abc, range⟩ := Config.wellFormed_distinct wf
  cases i with
  | readCo2 a => simp [decodeFrame, encodeFrame, Instr.asSeenOnWire]
  | calZero a => simp [decodeFrame, encodeFrame, Instr.asSeenOnWire, zero]
  | calSpan a => simp [decodeFrame, encodeFrame, Instr.asSeenOnWire, span, Nat.div_add_mod]
  | setAbc a =>
    cases on : abcEnabled a <;> simp [decodeFrame, encodeFrame, Instr.asSeenOnWire, abc, abcD0, abcOn, on]
  | setRange a => simp [decodeFrame, encodeFrame, Instr.asSeenOnWire, range, Nat.div_add_mod]

theorem isCommandFrame_of_decodeFrame {c : Config} {f : Frame} {i : Instr} (dec : decodeFrame c f = .ok i) :
    isCommandFrame f = true := by
  by_contra bad
  rw [decodeFrame, if_pos bad] at dec
  cases dec

/-- A row of R105 with one pair of argument bytes accepts only these. -/
theorem sent_of_ok {p : Prop} [Decidable p] {i j : Instr}
    (h : (if p then .ok j else .error .neverSent : Except DecodeReject Instr) = .ok i) : p ∧ j = i := by
  split at h
  · next sent => exact ⟨sent, Except.ok.inj h⟩
  · cases h

/-- Settles O8: every row that accepts the frame fixes the bytes 2, 3 and 4 of its operation's frame. -/
theorem acceptedFrameIsTheFrameOfItsOperation : Obligations.AcceptedFrameIsTheFrameOfItsOperation := by
  intro c f i dec
  have ok := isCommandFrame_of_decodeFrame dec
  rw [decodeFrame, if_neg (not_not.mpr ok)] at dec
  split at dec
  next readCo2 =>
    obtain ⟨⟨b3, b4⟩, rfl⟩ := sent_of_ok dec
    exact commandFrame_of_isCommandFrame ok readCo2 b3 b4
  split at dec
  next calZero =>
    obtain ⟨⟨b3, b4⟩, rfl⟩ := sent_of_ok dec
    exact commandFrame_of_isCommandFrame ok calZero b3 b4
  split at dec
  next calSpan =>
    cases dec
    exact commandFrame_of_isCommandFrame ok calSpan (hi8_ofNat _ _).symm (lo8_ofNat _ _).symm
  split at dec
  next setAbc =>
    split at dec
    next on =>
      obtain ⟨b3, b4⟩ := on
      cases dec
      exact commandFrame_of_isCommandFrame ok setAbc b3 b4
    next =>
      obtain ⟨⟨b3, b4⟩, rfl⟩ := sent_of_ok dec
      exact commandFrame_of_isCommandFrame ok setAbc b3 b4
  split at dec
  next setRange =>
    cases dec
    exact commandFrame_of_isCommandFrame ok setRange (hi8_ofNat _ _).symm (lo8_ofNat _ _).symm
  next => cases dec

end Sys2Proof
end

section
/-! The steps of an exchange that goes well, one lemma each (41_frame_builder.md R140, R146, 42_transport_exchange.md R161 to
R167, 60_exceptions.md R246), and the run they make up from ARGCHK to RX_READ (R178). -/

namespace Sys2Proof.Machine

section
variable {i : Instr} {s : State}

/-- START acceptance, as the meaning of the operation started (44_operations.md R220). -/
theorem exec_idle (i : Instr) (at_ : s.fsm = .idle) : exec i s = .next (s.accept i.op i.arg).advance := by
  rw [exec_eq]
  simp only [State.transition, at_, operationOf_op, operationOf_arg]

theorem exec_argchk_legal (at_ : s.fsm = .argchk) (legal : i.wellFormed = true) :
    exec i s = .next { s.after [] with fsm := .build } := by
  rw [exec_eq]
  simp only [State.transition, at_, State.argchk, operationOf_legal, legal, if_true]
  rfl

theorem exec_argchk_illegal (at_ : s.fsm = .argchk) (illegal : i.wellFormed = false) :
    exec i s = .next { s.after [] with err := 1, fsm := .complete } := by
  rw [exec_eq]
  simp only [State.transition, at_, State.argchk, operationOf_legal, illegal, Bool.false_eq_true, if_false]
  rfl

theorem exec_build (i : Instr) (at_ : s.fsm = .build) :
    exec i s = .next { s.after [] with buf := encodeFrame s.cfg i, fsm := .txWrite } := by
  rw [exec_eq, ← commandFrame_operationOf]
  simp only [State.transition, at_]
  rfl

theorem exec_txWrite (i : Instr) (at_ : s.fsm = .txWrite) (returns : s.input.returns = true) :
    exec i s = .next { s.after [.write (frameBytes s.buf)] with wcount := s.input.written, fsm := .txFlush } := by
  rw [exec_eq]
  simp only [State.transition, at_, State.txWrite, returns, if_true]
  rfl

theorem exec_txFlush_full (i : Instr) (at_ : s.fsm = .txFlush) (returns : s.input.returns = true)
    (full : 9 ≤ s.wcount) : exec i s = .next { s.after [.flush] with pollCnt := 0, fsm := .pollQ } := by
  rw [exec_eq]
  simp only [State.transition, at_, State.txFlush, returns, if_true, if_neg (Nat.not_lt.mpr full : ¬s.wcount < frameLen)]
  rfl

theorem exec_pollQ_answered (i : Instr) (at_ : s.fsm = .pollQ) (answered : 0 < s.input.available) :
    exec i s = .next { s.after [.available] with
      acount := s.input.available, pollCnt := s.pollCnt + 1, fsm := .availCheck } := by
  rw [exec_eq]
  simp only [State.transition, at_, State.pollQ, State.query_acount, answered, if_true]
  rfl

theorem exec_availCheck_nine (i : Instr) (at_ : s.fsm = .availCheck) (nine : s.acount = 9) :
    exec i s = .next { s.after [] with fsm := .rxRead } := by
  rw [exec_eq]
  simp only [State.transition, at_, State.availCheck, nine, frameLen, if_true]
  rfl

theorem exec_rxRead_full (i : Instr) (at_ : s.fsm = .rxRead) (returns : s.input.returns = true)
    (full : 9 ≤ s.input.received.length) :
    exec i s = .next { s.after [.readBytes 9] with
      rcount := 9, buf := placeReceived s.buf s.input.received, fsm := if i.op = 0 then .validate else .complete } := by
  have kept : keptCount s.input.received = 9 := Nat.min_eq_right full
  rw [exec_eq]
  simp only [State.transition, at_, State.rxRead, returns, kept, frameLen, operationOf_op, if_true, lt_irrefl, if_false]
  split <;> rfl

theorem exec_rxRead_setting (at_ : s.fsm = .rxRead) (returns : s.input.returns = true)
    (full : 9 ≤ s.input.received.length) (setting : i.op ≠ 0) :
    exec i s = .next { s.after [.readBytes 9] with
      rcount := 9, buf := placeReceived s.buf s.input.received, fsm := .complete } := by
  rw [exec_rxRead_full i at_ returns full, if_neg setting]

theorem exec_complete (i : Instr) (at_ : s.fsm = .complete) :
    exec i s = .next { s.after [] with
      status := s.err, result := resultOf i.op s.err s.ppm, busy := false, done := true, fsm := .idle } := by
  rw [exec_eq]
  simp only [State.transition, at_, operationOf_op]
  rfl

/-- The engine hangs in no call, and OP_R and ARG_R name `i` (10_state.md R35). -/
def State.performs (s : State) (i : Instr) : Prop :=
  s.hung = false ∧ decodeFields s.opR s.argR = .ok i

theorem performs_accept (hung : s.hung = false) (i : Instr) : ((s.accept i.op i.arg).advance).performs i :=
  ⟨hung, decodeFields_op_arg i⟩

theorem quiet_input {x : Input} {rest : List Input} (inputs : s.inputs = x :: rest) (undisturbed : quiet x) :
    quiet s.input := by
  rwa [State.input_cons inputs]

theorem quiet.returns {x : Input} (h : quiet x) : x.returns = true := by
  obtain ⟨-, -, returns⟩ := h
  exact returns

/-- A run whose first step is one of the operation in progress is that step's meaning, then the rest. -/
theorem run_performs {t : State} {x : Input} {rest : List Input} (k : Nat) (performs : s.performs i)
    (inputs : s.inputs = x :: rest) (undisturbed : quiet x) (meaning : exec i s = .next t)
    (running : s.fsm ≠ .idle := by simp) : s.run (k + 1) = t.run k := by
  obtain ⟨hung, dec⟩ := performs
  rw [exec_eq, Host.Outcome.next.injEq] at meaning
  rw [run_running k inputs undisturbed hung running dec, meaning]

/-- A run whose first step accepts START with the command word `w` (44_operations.md R220). -/
theorem run_started {x : Input} {rest : List Input} {w : Word} (k : Nat) (waiting : s.waiting)
    (inputs : s.inputs = x :: rest) (start : starts x w) :
    s.run (k + 1) = (s.accept (wordOp w) (wordArg w)).advance.run k := by
  obtain ⟨idle, hung⟩ := waiting
  rw [← State.input_cons inputs] at start
  obtain ⟨rst, config, pressed, word⟩ := start
  rw [run_succ k (step_accepts hung rst config idle pressed), word]

/-- From ARGCHK with a legal argument, a full write and nine bytes reported at the first query the engine comes to RX_READ
after six steps. -/
theorem run_exchange {x1 x2 x3 x4 x5 x6 : Input} {rest : List Input} (k : Nat) (at_ : s.fsm = .argchk)
    (performs : s.performs i) (legal : i.wellFormed = true)
    (inputs : s.inputs = x1 :: x2 :: x3 :: x4 :: x5 :: x6 :: rest) (undisturbed : ∀ x ∈ [x1, x2, x3, x4, x5, x6], quiet x)
    (written : 9 ≤ x3.written) (available : x5.available = 9) :
    s.run (k + 6) = State.run k { s with
      buf := encodeFrame s.cfg i, wcount := x3.written, acount := x5.available, pollCnt := 1, fsm := .rxRead, inputs := rest,
      tick := s.tick + 6, calls := .available :: .flush :: .write (frameBytes (encodeFrame s.cfg i)) :: s.calls } := by
  simp only [List.forall_mem_cons, List.not_mem_nil, false_imp_iff, implies_true, and_true] at undisturbed
  obtain ⟨q1, q2, q3, q4, q5, q6⟩ := undisturbed
  have answered : 0 < x5.available := by omega
  calc s.run (k + 6)
    _ = State.run (k + 5) { s with
        fsm := .build, inputs := x2 :: x3 :: x4 :: x5 :: x6 :: rest, tick := s.tick + 1 } :=
      run_performs _ performs inputs q1 ((exec_argchk_legal at_ legal).trans (by simp [State.after, inputs]))
        (by simp [at_])
    _ = State.run (k + 4) { s with
        buf := encodeFrame s.cfg i, fsm := .txWrite, inputs := x3 :: x4 :: x5 :: x6 :: rest, tick := s.tick + 2 } :=
      run_performs _ performs rfl q2 (exec_build i rfl)
    _ = State.run (k + 3) { s with
        buf := encodeFrame s.cfg i, wcount := x3.written, fsm := .txFlush, inputs := x4 :: x5 :: x6 :: rest,
        tick := s.tick + 3, calls := .write (frameBytes (encodeFrame s.cfg i)) :: s.calls } :=
      run_performs _ performs rfl q3 (exec_txWrite i rfl q3.returns)
    _ = State.run (k + 2) { s with
        buf := encodeFrame s.cfg i, wcount := x3.written, pollCnt := 0, fsm := .pollQ, inputs := x5 :: x6 :: rest,
        tick := s.tick + 4, calls := .flush :: .write (frameBytes (encodeFrame s.cfg i)) :: s.calls } :=
      run_performs _ performs rfl q4 (exec_txFlush_full i rfl q4.returns written)
    _ = State.run (k + 1) { s with
        buf := encodeFrame s.cfg i, wcount := x3.written, acount := x5.available, pollCnt := 1, fsm := .availCheck,
        inputs := x6 :: rest, tick := s.tick + 5,
        calls := .available :: .flush :: .write (frameBytes (encodeFrame s.cfg i)) :: s.calls } :=
      run_performs _ performs rfl q5 (exec_pollQ_answered i rfl answered)
    _ = _ := run_performs _ performs rfl q6 (exec_availCheck_nine i rfl available)

end

/-- Settles O19: START acceptance latches the operation's own code and argument. -/
theorem everyOperationIsAccepted : Obligations.EveryOperationIsAccepted :=
  fun _ _ at_ => ⟨exec_idle _ at_, exec_idle _ at_, exec_idle _ at_, exec_idle _ at_, exec_idle _ at_⟩

/-- Settles O35: after the exchange RX_READ goes past validation, and COMPLETE finds ERR as START acceptance left it. -/
theorem settingOperationSucceedsOnAnyNineBytes : Obligations.SettingOperationSucceedsOnAnyNineBytes := by
  intro s w i x0 x1 x2 x3 x4 x5 x6 x7 x8 rest waiting inputs start dec setting legal undisturbed written available received
  obtain ⟨op, arg⟩ := decodeFields_ok dec
  have exchange : ∀ x ∈ [x1, x2, x3, x4, x5, x6], quiet x := fun x hx =>
    undisturbed x (List.mem_append_left [x7, x8] hx)
  have q7 : quiet x7 := undisturbed x7 (by simp)
  have q8 : quiet x8 := undisturbed x8 (by simp)
  have ⟨_, hung⟩ := waiting
  have performs : ((s.accept i.op i.arg).advance).performs i := performs_accept hung i
  have run := calc s.run 9
    _ = (s.accept i.op i.arg).advance.run 8 := by rw [run_started 8 waiting inputs start, op, arg]
    _ = State.run 2 _ := run_exchange 2 rfl performs legal (congrArg List.tail inputs) exchange written available
    _ = State.run 1 _ := run_performs 1 performs rfl q7 (exec_rxRead_setting rfl q7.returns received setting)
    _ = .next _ := run_performs 0 performs rfl q8 (exec_complete i rfl)
  exact ⟨_, run, rfl, rfl, rfl, rfl, resultOf_setting 0 setting, rfl, rfl, rfl, rfl, rfl, rfl⟩

end Sys2Proof.Machine
end

section
/-! A word without a legal operation (30_encoding.md R110, 41_frame_builder.md R146): a reserved OP and an argument that is
not legal take the same two steps, which `State.latchedLegal` decides. -/

namespace Sys2Proof.Machine

section
variable {s : State}

theorem latchedLegal_of_decodeFields {i : Instr} (dec : decodeFields s.opR s.argR = .ok i) :
    s.latchedLegal = i.wellFormed := by
  simp only [State.latchedLegal, dec]

theorem latchedLegal_of_reserved {e : DecodeReject} (reserved : decodeFields s.opR s.argR = .error e) :
    s.latchedLegal = false := by
  simp only [State.latchedLegal, reserved]

/-- A step of an operation with a reserved OP, forwards. -/
theorem step_reserved {e : DecodeReject} (hung : s.hung = false) (undisturbed : quiet s.input) (running : s.fsm ≠ .idle)
    (reserved : decodeFields s.opR s.argR = .error e) : step s = runReserved s.opR s.argR s := by
  obtain ⟨rst, config, -⟩ := undisturbed
  rw [step_configured (configure_none config)]
  simp only [stepOn, hung, rst, running, reserved, Bool.false_eq_true, if_false]

theorem step_argchk_illegal (hung : s.hung = false) (undisturbed : quiet s.input) (at_ : s.fsm = .argchk)
    (illegal : s.latchedLegal = false) : step s = .next { s.after [] with err := 1, fsm := .complete } := by
  have running : s.fsm ≠ .idle := by simp [at_]
  cases dec : decodeFields s.opR s.argR with
  | ok i =>
    have ⟨rst, config, _⟩ := undisturbed
    rw [step_running hung rst config running dec, ← exec_eq]
    exact exec_argchk_illegal at_ (latchedLegal_of_decodeFields dec ▸ illegal)
  | error e =>
    rw [step_reserved hung undisturbed running dec]
    simp only [runReserved, at_]
    rfl

theorem step_complete (hung : s.hung = false) (undisturbed : quiet s.input) (at_ : s.fsm = .complete) :
    step s = .next { s.after [] with
      status := s.err, result := resultOf s.opR s.err s.ppm, busy := false, done := true, fsm := .idle } := by
  have running : s.fsm ≠ .idle := by simp [at_]
  cases dec : decodeFields s.opR s.argR with
  | ok i =>
    have ⟨rst, config, _⟩ := undisturbed
    have ⟨op, _⟩ := decodeFields_ok dec
    rw [step_running hung rst config running dec, ← exec_eq, exec_complete i at_, op]
  | error e =>
    rw [step_reserved hung undisturbed running dec]
    simp only [runReserved, at_]
    rfl

end

/-- Settles O36: ARGCHK rejects what START acceptance latched, and COMPLETE reports it. -/
theorem illegalWordCompletesWithInvalidArgument : Obligations.IllegalWordCompletesWithInvalidArgument := by
  intro s w x0 x1 x2 rest waiting inputs start q1 q2 illegal
  have ⟨_, hung⟩ := waiting
  have tail : ((s.accept (wordOp w) (wordArg w)).advance).inputs = x1 :: x2 :: rest := congrArg List.tail inputs
  have rejected : ((s.accept (wordOp w) (wordArg w)).advance).latchedLegal = false := by
    cases dec : decode w with
    | ok i => exact (latchedLegal_of_decodeFields (s := (s.accept _ _).advance) dec).trans (illegal i dec)
    | error e => exact latchedLegal_of_reserved (s := (s.accept _ _).advance) dec
  have run := calc s.run 3
    _ = (s.accept (wordOp w) (wordArg w)).advance.run 2 := run_started 2 waiting inputs start
    _ = State.run 1 _ := run_succ 1 (step_argchk_illegal hung (quiet_input tail q1) rfl rejected)
    _ = .next _ := run_succ 0 (step_complete hung (quiet_input (congrArg List.tail tail) q2) rfl)
  exact ⟨_, run, rfl, rfl, rfl, rfl, resultOf_failed_toInt (wordOp w) 0 (e := 1) (by decide), rfl, rfl, rfl,
    by simp [inputs]⟩

/-! The frame TX_WRITE sends (41_frame_builder.md R144). -/

theorem holdsCommandFrame_iff {s : State} :
    s.holdsCommandFrame = true ↔ ∃ i, decodeFields s.opR s.argR = .ok i ∧ s.buf = encodeFrame s.cfg i := by
  cases dec : decodeFields s.opR s.argR <;> simp [State.holdsCommandFrame, dec]

/-- While BUSY = 1 a step that answers a next state is one in which the host sets no configuration. -/
theorem config_none_of_busy {s t : State} (busy : s.busy = true) (h : step s = .next t) : s.input.config = none := by
  cases config : s.input.config with
  | none => rfl
  | some c => rw [step_refused (configure_busy config busy)] at h; cases h

/-- Settles O46: in TX_WRITE the invariant has the operation's own frame in BUF, and the step's call is the write of BUF. -/
theorem sentFrameIsTheOperationsWithFreshChecksum : Obligations.SentFrameIsTheOperationsWithFreshChecksum := by
  rintro s t ⟨flags, -, -, -, legal, -, frame, -⟩ at_ hung rst h
  obtain ⟨busy, -⟩ := flags.running (by simp [at_])
  obtain ⟨i, dec, buf⟩ := holdsCommandFrame_iff.mp (frame at_)
  have wellFormed : i.wellFormed = true := by
    rw [← latchedLegal_of_decodeFields dec]
    exact legal (.inr (by simp [at_, Fsm.onPath]))
  have calls := stepMakesExactlyItsCall s t (config_none_of_busy busy h) h
  refine ⟨i, dec, wellFormed, by rw [buf, isCommandFrame_encodeFrame], ?_⟩
  simpa [hung, rst, State.nextCall, at_, buf] using calls

end Sys2Proof.Machine
end

section
/-! The checksum (40_checksum.md). It is the negation of the wrap-around sum of bytes 1 to 7 (R131, R136), so two frames
have the same checksum exactly when their sums agree mod 256. The 8-bit sum serves the error-detection statements (R135):
a flip replaces one of its terms. -/

namespace Sys2Proof.Machine

theorem checksum_toNat (f : Frame) : (checksum f).toNat = (256 - frameSum f % 256) % 256 := by
  simp only [checksum, BitVec.toNat_ofNat]
  omega

theorem checksum_eq_iff_frameSum_mod {f g : Frame} :
    checksum f = checksum g ↔ frameSum f % 256 = frameSum g % 256 := by
  rw [← BitVec.toNat_inj, checksum_toNat, checksum_toNat]
  omega

theorem checksum_eq_zero_iff (f : Frame) : checksum f = 0 ↔ frameSum f % 256 = 0 := by
  simp only [← BitVec.toNat_inj, checksum_toNat, BitVec.ofNat_eq_ofNat, BitVec.toNat_ofNat]
  omega

/-- The 8-bit wrap-around sum of bytes 1 to 7 (40_checksum.md R136). -/
def byteSum (f : Frame) : Byte :=
  f.b1 + f.b2 + f.b3 + f.b4 + f.b5 + f.b6 + f.b7

theorem ofNat_frameSum (f : Frame) : BitVec.ofNat 8 (frameSum f) = byteSum f := by
  simp only [frameSum, byteSum, BitVec.ofNat_add, BitVec.ofNat_toNat, BitVec.setWidth_eq]

theorem ofNat_frameSum_mod (f : Frame) : BitVec.ofNat 8 (frameSum f % 256) = byteSum f := by
  rw [← ofNat_frameSum, ← BitVec.toNat_inj, BitVec.toNat_ofNat, BitVec.toNat_ofNat, Nat.mod_mod]

theorem checksum_eq_neg_byteSum (f : Frame) : checksum f = -byteSum f := by
  apply BitVec.eq_of_toNat_eq
  rw [checksum_toNat, BitVec.toNat_neg, ← ofNat_frameSum, BitVec.toNat_ofNat]

theorem checksum_eq_iff_byteSum {f g : Frame} : checksum f = checksum g ↔ byteSum f = byteSum g := by
  rw [checksum_eq_neg_byteSum, checksum_eq_neg_byteSum, BitVec.neg_inj]

theorem verify_iff (f : Frame) : verify f = true ↔ checksum f = f.b8 := beq_iff_eq

/-- A flip of a bit in one of bytes 1 to 7 replaces that byte's term of the sum. -/
theorem byteSum_flipBit (f : Frame) (i : Fin 9) (j : Nat) (low : 1 ≤ i.val) (high : i.val ≤ 7) :
    byteSum (flipBit f i j) = byteSum f - frameByte f i + (frameByte f i ^^^ BitVec.twoPow 8 j) := by
  obtain ⟨i, _⟩ := i
  simp only at low high
  interval_cases i <;> simp only [byteSum, flipBit, frameByte] <;> ring

theorem xor_twoPow_ne_self (b : Byte) {j : Nat} (h : j ≤ 7) : b ^^^ BitVec.twoPow 8 j ≠ b := by
  rw [Ne, xor_left_eq_self_iff, ← BitVec.toNat_inj, BitVec.toNat_twoPow_of_lt (by omega)]
  exact (Nat.two_pow_pos j).ne'

/-- A carry out of bit 7 is lost, so a flip of it is an addition. -/
theorem xor_twoPow_seven : ∀ b : Byte, b ^^^ BitVec.twoPow 8 7 = b + 0x80 := by decide

theorem checksum_flipBit_ne (f : Frame) (i : Fin 9) (j : Nat) (low : 1 ≤ i.val) (high : i.val ≤ 7) (bit : j ≤ 7) :
    checksum (flipBit f i j) ≠ checksum f := by
  rw [Ne, checksum_eq_iff_byteSum, byteSum_flipBit f i j low high]
  intro same
  exact xor_twoPow_ne_self (frameByte f i) bit (by linear_combination same)

/-- The flips of bit 7 in bytes 3 and 4 add 0x80 twice, which is 0 mod 256. -/
theorem byteSum_flipBit_seven_twice (f : Frame) : byteSum (flipBit (flipBit f 3 7) 4 7) = byteSum f := by
  have wraps : (0x80 : Byte) + 0x80 = 0 := by decide
  simp only [byteSum, flipBit, xor_twoPow_seven]
  linear_combination wraps

/-- Settles O9: R130's formula, truncated to 8 bits. -/
theorem checksumOfTheSumOfBytesOneToSeven : Obligations.ChecksumOfTheSumOfBytesOneToSeven := by
  intro b0 b1 b2 b3 b4 b5 b6 b7 b8
  exact ⟨frameSum_le ⟨b0, b1, b2, b3, b4, b5, b6, b7, b8⟩, BitVec.toNat_ofNat _ 8⟩

/-- Settles O10: each form is the negation of the sum mod 256. -/
theorem checksumIsTheNegatedSum : Obligations.ChecksumIsTheNegatedSum := by
  intro f s
  have inverted : checksum f = ~~~BitVec.ofNat 8 (s % 256) + 1 := by
    rw [ofNat_frameSum_mod, checksum_eq_neg_byteSum]
    exact BitVec.neg_eq_not_add _
  refine ⟨checksum_toNat f, ?_, inverted, checksum_eq_neg_byteSum f⟩
  rw [checksum_toNat]
  omega

/-- Settles O11: only a sum of 0 mod 256 makes the intermediate value 0x100. -/
theorem checksumIsZeroExactlyWhenTheSumIs : Obligations.ChecksumIsZeroExactlyWhenTheSumIs := by
  intro f s v
  exact ⟨by omega, by omega, checksum_eq_zero_iff f⟩

/-- Settles O12: byte 8 is the negation of the sum exactly when the two cancel. -/
theorem frameSumsToZeroIffChecksumRight : Obligations.FrameSumsToZeroIffChecksumRight := by
  intro f
  have := f.b8.isLt
  rw [← BitVec.toNat_inj, checksum_toNat]
  omega

/-- Settles O13: `checksum` reads bytes 1 to 7 and nothing else. -/
theorem verifyAcceptsExactlyTheOwnChecksum : Obligations.VerifyAcceptsExactlyTheOwnChecksum := by
  refine ⟨verify_iff, fun f => (verify_iff _).mpr rfl, ?_⟩
  intro f g h1 h2 h3 h4 h5 h6 h7
  rw [checksum_eq_iff_byteSum, byteSum, byteSum, h1, h2, h3, h4, h5, h6, h7]

/-- Settles O14: a flip changes one term of the sum; the undetected changes leave the sum as it was. -/
theorem checksumDetectsEverySingleBitFlip : Obligations.ChecksumDetectsEverySingleBitFlip := by
  refine ⟨checksum_flipBit_ne, fun f g => checksum_eq_iff_frameSum_mod.mpr, fun f _ _ => ?plusMinusOne, fun f => ?swap,
    fun f => ?bitSevenTwice, fun f x => rfl⟩
  case plusMinusOne => rw [checksum_eq_iff_byteSum, byteSum, byteSum]; ring
  case swap => rw [checksum_eq_iff_byteSum, byteSum, byteSum]; ring
  case bitSevenTwice => exact checksum_eq_iff_byteSum.mpr (byteSum_flipBit_seven_twice f)

/-- Settles O15: the nine rows of R137, evaluated. -/
theorem workedChecksums : Obligations.WorkedChecksums := by
  unfold Obligations.WorkedChecksums
  decide

end Sys2Proof.Machine
end

section
/-! ARGCHK and BUILD (41_frame_builder.md R140 to R150), and that no state of the invariant has a reserved OP in a state of
the exchange (log 7). -/

namespace Sys2Proof.Machine

section
variable {s : State}

/-! ARGCHK (41_frame_builder.md R146 to R148). -/

theorem wellFormed_calSpan_iff (level : Half) :
    (Instr.calSpan level).wellFormed = true ↔ 1000 ≤ level.toNat ∧ level.toNat ≤ 5000 :=
  decide_eq_true_iff

theorem wellFormed_setRange_iff (range : Half) :
    (Instr.setRange range).wellFormed = true ↔ range.toNat = 2000 ∨ range.toNat = 5000 :=
  decide_eq_true_iff

/-- ARGCHK of a reserved OP makes no call, so whether calls return does not matter. -/
theorem step_argchk_reserved (at_ : s.fsm = .argchk) (hung : s.hung = false) (rst : s.input.rst = false)
    (config : s.input.config = none) (reserved : 5 ≤ s.opR.toNat) :
    step s = .next { s.after [] with err := 1, fsm := .complete } := by
  rw [step_configured (configure_none config)]
  simp only [stepOn, hung, rst, at_, decodeFields_reserved s.argR reserved, runReserved, Bool.false_eq_true, if_false,
    reduceCtorEq]
  rfl

/-! BUILD (41_frame_builder.md R140 to R142). -/

/-- BUILD's nine bytes written out, the checksum as the negated sum of 40_checksum.md R131. -/
theorem commandFrame_eq (cmd d0 d1 : Byte) :
    commandFrame cmd d0 d1 = ⟨0xFF, 0x01, cmd, d0, d1, 0x00, 0x00, 0x00, -(0x01 + cmd + d0 + d1)⟩ := by
  have ck : checksum ⟨0xFF, 0x01, cmd, d0, d1, 0x00, 0x00, 0x00, 0x00⟩ = -(0x01 + cmd + d0 + d1) := by
    simp only [checksum_eq_neg_byteSum, byteSum, BitVec.ofNat_eq_ofNat, BitVec.add_zero]
  rw [← ck]
  rfl

theorem hi8_eq_ofNat (x : Half) : hi8 x = BitVec.ofNat 8 (x.toNat / 256) := by
  rw [← hi8_toNat, BitVec.ofNat_toNat, BitVec.setWidth_eq]

theorem lo8_eq_ofNat (x : Half) : lo8 x = BitVec.ofNat 8 (x.toNat % 256) := by
  rw [← lo8_toNat, BitVec.ofNat_toNat, BitVec.setWidth_eq]

/-- `enabled`, the least significant bit, is the parity of ARG. -/
theorem abcD0_eq_ite (arg : Half) : abcD0 arg = if arg.toNat % 2 = 1 then 0xA0 else 0x00 := by
  simp [abcD0, abcEnabled, abcOn, BitVec.getLsbD, Nat.testBit_zero]

/-- BUILD, with the operation's frame named. -/
theorem exec_build_of_frame {i : Instr} {f : Frame} (at_ : s.fsm = .build) (frame : encodeFrame s.cfg i = f) :
    exec i s = .next { s.after [] with buf := f, fsm := .txWrite } := by
  rw [exec_build i at_, frame]

/-! No fault from the invariant (41_frame_builder.md R140, R146). -/

/-- The invariant has a reserved OP in the two states R110 lets it reach, and in no other outside IDLE. -/
theorem State.Inv.reserved_at {e : DecodeReject} (h : s.Inv) (running : s.fsm ≠ .idle)
    (reserved : decodeFields s.opR s.argR = .error e) : s.fsm = .argchk ∨ s.fsm = .complete := by
  obtain ⟨-, -, -, -, legal, -⟩ := h
  rw [latchedLegal_of_reserved reserved] at legal
  cases at_ : s.fsm <;> simp [at_, Fsm.inFlush, Fsm.onPath] at legal running ⊢

theorem runReserved_answers (op : BitVec 3) (arg : Half) (at_ : s.fsm = .argchk ∨ s.fsm = .complete) :
    ∃ t, runReserved op arg s = .next t := by
  obtain at_ | at_ := at_ <;> simp only [runReserved, at_] <;> exact ⟨_, rfl⟩

/-- Once the configuration is settled, a step from the invariant answers a next state. -/
theorem stepOn_answers (h : s.Inv) : ∃ t, stepOn s = .next t := by
  unfold stepOn
  split
  · exact ⟨_, rfl⟩
  split
  · exact ⟨_, rfl⟩
  split
  · split <;> exact ⟨_, rfl⟩
  next running =>
    split
    · exact ⟨_, rfl⟩
    next reserved => exact runReserved_answers s.opR s.argR (h.reserved_at running reserved)

/-- The host's configuration move keeps the invariant. -/
theorem inv_of_configure {s1 : State} (h : s.Inv) (settled : s.configure = .ok s1) : s1.Inv := by
  obtain ⟨-, rfl⟩ | ⟨c, -, free, pos, rfl⟩ := configure_cases settled
  · exact h
  · exact inv_configure h free pos

end

/-- Settles O21: ARGCHK's test is the operation's legality, and a reserved OP has no legal argument. -/
theorem argumentCheckPassesExactlyTheLegal : Obligations.ArgumentCheckPassesExactlyTheLegal := by
  refine ⟨fun s a at_ => ?_, fun s => step_argchk_reserved⟩
  refine ⟨exec_argchk_legal at_ rfl, exec_argchk_legal at_ rfl, exec_argchk_legal at_ rfl,
    fun low high => exec_argchk_legal at_ ((wellFormed_calSpan_iff a).mpr ⟨low, high⟩),
    fun outside => exec_argchk_illegal at_ ?span,
    fun listed => exec_argchk_legal at_ ((wellFormed_setRange_iff a).mpr listed),
    fun no2000 no5000 => exec_argchk_illegal at_ ?range⟩
  case span =>
    rw [Bool.eq_false_iff, Ne, wellFormed_calSpan_iff]
    omega
  case range =>
    rw [Bool.eq_false_iff, Ne, wellFormed_setRange_iff]
    omega

/-- Settles O22: BUILD's frame is the command frame of the operation's command byte and argument bytes. -/
theorem buildWritesTheOperationsFrame : Obligations.BuildWritesTheOperationsFrame := by
  intro s a at_ built high low
  have build {i : Instr} {cmd d0 d1 : Byte} (frame : encodeFrame s.cfg i = commandFrame cmd d0 d1) :
      exec i s = built cmd d0 d1 :=
    exec_build_of_frame at_ (frame.trans (commandFrame_eq cmd d0 d1))
  refine ⟨build rfl, build rfl, build ?span, build ?abc, build ?range⟩
  case span | range => rw [encodeFrame, hi8_eq_ofNat, lo8_eq_ofNat]
  case abc => rw [encodeFrame, abcD0_eq_ite]

/-- Settles O60: only a reserved OP in a state of the exchange faults, and the invariant has none there. -/
theorem stepFromTheInvariantNeverFaults : Obligations.StepFromTheInvariantNeverFaults := by
  refine ⟨fun s r inv faults => ?_, fun s inv config => ?_⟩
  · cases settled : s.configure with
    | error refusal =>
      rw [step_refused settled] at faults
      cases faults
    | ok s1 =>
      obtain ⟨t, answers⟩ := stepOn_answers (inv_of_configure inv settled)
      rw [step_configured settled, answers] at faults
      cases faults
  · obtain ⟨t, answers⟩ := stepOn_answers inv
    rw [← step_configured (configure_none config)] at answers
    exact ⟨t, answers, everyStepKeepsTheInvariant s t inv answers⟩

/-- Settles O16: with the default command bytes each row's frame is a closed value, and BUILD writes it. -/
theorem workedFrames : Obligations.WorkedFrames := by
  intro s at_ zero span abc range writes
  have build {i : Instr} {f : Frame} (frame : encodeFrame s.cfg i = f) : exec i s = writes f :=
    exec_build_of_frame at_ frame
  refine ⟨fun a => build rfl, fun a => build ?_, build ?_, build ?_, build ?_, build ?_, build ?_, build ?_, build ?_⟩
  all_goals
    simp only [encodeFrame, zero, span, abc, range]
    decide

end Sys2Proof.Machine
end

section
/-! The other outcomes of the steps of the exchange, and the steps of the cache flush, one lemma each
(42_transport_exchange.md R161 to R174). -/

namespace Sys2Proof.Machine

section
variable {s : State} (i : Instr)

/-! The exchange (R162 to R167). -/

theorem exec_txFlush_short (at_ : s.fsm = .txFlush) (returns : s.input.returns = true) (short : s.wcount < 9) :
    exec i s = .next { s.after [.flush] with err := 2, fsm := .cfFlush } := by
  rw [exec_eq]
  simp only [State.transition, at_, State.txFlush, returns, if_true, if_pos (show s.wcount < frameLen from short)]
  rfl

theorem exec_pollQ_bound (at_ : s.fsm = .pollQ) (unanswered : s.input.available = 0)
    (bound : s.pollCnt + 1 = s.cfg.pollMax) :
    exec i s = .next { s.after [.available] with
      acount := s.input.available, pollCnt := s.pollCnt + 1, err := 3, fsm := .cfFlush } := by
  have noCount : ¬0 < s.query.acount := by simp [unanswered]
  have reached : s.query.pollCnt = s.query.cfg.pollMax := bound
  rw [exec_eq]
  simp only [State.transition, at_, State.pollQ, if_neg noCount, if_pos reached]
  rfl

theorem exec_pollQ_more (at_ : s.fsm = .pollQ) (unanswered : s.input.available = 0)
    (below : s.pollCnt + 1 ≠ s.cfg.pollMax) :
    exec i s = .next { s.after [.available] with
      acount := s.input.available, pollCnt := s.pollCnt + 1, fsm := .pollSleep } := by
  have noCount : ¬0 < s.query.acount := by simp [unanswered]
  have notReached : s.query.pollCnt ≠ s.query.cfg.pollMax := below
  rw [exec_eq]
  simp only [State.transition, at_, State.pollQ, if_neg noCount, if_neg notReached]
  rfl

theorem exec_pollSleep (at_ : s.fsm = .pollSleep) :
    exec i s = .next { s.after [.sleep s.cfg.pollDelay] with fsm := .pollQ } := by
  rw [exec_eq]
  simp only [State.transition, at_]
  rfl

theorem exec_availCheck_other (at_ : s.fsm = .availCheck) (other : s.acount ≠ 9) :
    exec i s = .next { s.after [] with err := 4, fsm := .cfFlush } := by
  rw [exec_eq]
  simp only [State.transition, at_, State.availCheck, if_neg (show s.acount ≠ frameLen from other)]
  rfl

theorem exec_rxRead_short (at_ : s.fsm = .rxRead) (returns : s.input.returns = true)
    (short : s.input.received.length < 9) :
    exec i s = .next { s.after [.readBytes 9] with
      rcount := s.input.received.length, buf := placeReceived s.buf s.input.received, err := 5, fsm := .cfFlush } := by
  have kept : keptCount s.input.received = s.input.received.length := Nat.min_eq_left short.le
  rw [exec_eq]
  simp only [State.transition, at_, State.rxRead, returns, kept, if_true,
    if_pos (show s.input.received.length < frameLen from short)]
  rfl

/-! The cache flush (R170 to R173). -/

theorem exec_cfFlush (at_ : s.fsm = .cfFlush) (returns : s.input.returns = true) :
    exec i s = .next { s.after [.flush] with pollCnt := 0, fsm := .cfPollQ } := by
  rw [exec_eq]
  simp only [State.transition, at_, State.cfFlush, returns, if_true]
  rfl

theorem exec_cfPollQ_last (at_ : s.fsm = .cfPollQ) (last : 0 < s.input.available ∨ s.pollCnt + 1 = s.cfg.pollMax) :
    exec i s = .next { s.after [.available] with
      acount := s.input.available, pollCnt := s.pollCnt + 1, drainLeft := s.input.available, fsm := .cfDrain } := by
  have leaves : 0 < s.query.acount ∨ s.query.pollCnt = s.query.cfg.pollMax := last
  rw [exec_eq]
  simp only [State.transition, at_, State.cfPollQ, if_pos leaves]
  rfl

theorem exec_cfPollQ_more (at_ : s.fsm = .cfPollQ) (unanswered : s.input.available = 0)
    (below : s.pollCnt + 1 ≠ s.cfg.pollMax) :
    exec i s = .next { s.after [.available] with
      acount := s.input.available, pollCnt := s.pollCnt + 1, fsm := .cfPollSleep } := by
  have stays : ¬(0 < s.query.acount ∨ s.query.pollCnt = s.query.cfg.pollMax) := by simp [unanswered, below]
  rw [exec_eq]
  simp only [State.transition, at_, State.cfPollQ, if_neg stays]
  rfl

theorem exec_cfPollSleep (at_ : s.fsm = .cfPollSleep) :
    exec i s = .next { s.after [.sleep s.cfg.pollDelay] with fsm := .cfPollQ } := by
  rw [exec_eq]
  simp only [State.transition, at_]
  rfl

theorem exec_cfDrain_done (at_ : s.fsm = .cfDrain) (done : s.drainLeft = 0) :
    exec i s = .next { s.after [] with fsm := .complete } := by
  rw [exec_eq]
  simp only [State.transition, at_, State.cfDrain, done, if_true]
  rfl

theorem exec_cfDrain_none (at_ : s.fsm = .cfDrain) (left : 0 < s.drainLeft) (returns : s.input.returns = true)
    (empty : s.input.drained = none) : exec i s = .next { s.after [.read] with fsm := .complete } := by
  rw [exec_eq]
  simp only [State.transition, at_, State.cfDrain, if_neg left.ne', returns, empty, if_true]
  rfl

theorem exec_cfDrain_byte {b : Byte} (at_ : s.fsm = .cfDrain) (left : 0 < s.drainLeft) (returns : s.input.returns = true)
    (byte : s.input.drained = some b) :
    exec i s = .next { s.after [.read] with drainLeft := s.drainLeft - 1, fsm := .cfDrain } := by
  rw [exec_eq]
  simp only [State.transition, at_, cfDrain_byte (Nat.sub_add_cancel left).symm returns byte]
  simp only [State.advance, State.after, at_, List.singleton_append]

/-- What a step of the cache flush can write, whatever the transport answers (R174). -/
theorem transition_inFlush (d : Operation) (flush : s.fsm.inFlush = true) :
    s.transition d = { s with
      fsm := (s.transition d).fsm, pollCnt := (s.transition d).pollCnt, acount := (s.transition d).acount,
      drainLeft := (s.transition d).drainLeft, hung := (s.transition d).hung, calls := (s.transition d).calls } ∧
    ((s.transition d).fsm.inFlush = true ∨ (s.transition d).fsm = .complete) := by
  cases transition_cases s d
  case flushed eq | settled eq | settleMore eq | settleSlept eq => rw [eq]; exact ⟨rfl, .inl rfl⟩
  case blocked eq | drainByte eq => rw [eq]; exact ⟨rfl, .inl flush⟩
  case drainDone eq | drainEmpty eq => rw [eq]; exact ⟨rfl, .inr rfl⟩
  all_goals simp [‹s.fsm = _›, Fsm.inFlush] at flush

end

/-- Settles O52: a step of the cache flush writes its own registers, and every meaning answers a next state. -/
theorem cacheFlushChangesOnlyItsOwnRegisters : Obligations.CacheFlushChangesOnlyItsOwnRegisters := by
  intro i s flush
  obtain ⟨kept, within⟩ := transition_inFlush (operationOf s.cfg i) flush
  exact ⟨_, exec_eq i s, congrArg State.advance kept, within⟩

/-- Settles O28: the count received decides between ShortRead and the operation's own route. -/
theorem rxReadFillsTheBuffer : Obligations.RxReadFillsTheBuffer := by
  intro s a at_ returns l t
  refine ⟨fun short i => ?_, fun full => ?_⟩
  · have count : min l.length 9 = l.length := Nat.min_eq_left short.le
    simp only [t, count]
    exact exec_rxRead_short i at_ returns short
  · have count : min l.length 9 = 9 := Nat.min_eq_right full
    simp only [t, count]
    have read (i : Instr) := exec_rxRead_full i at_ returns full
    exact ⟨read (.readCo2 a), read (.calZero a), read (.calSpan a), read (.setAbc a), read (.setRange a)⟩

/-- Settles O23: the bytes of BUF are handed over in transmission order. -/
theorem txWriteSendsTheBuffer : Obligations.TxWriteSendsTheBuffer :=
  fun i _ at_ returns => exec_txWrite i at_ returns

/-- Settles O24: WCOUNT decides between ShortWrite and the poll-wait loop. -/
theorem txFlushTestsTheWriteCount : Obligations.TxFlushTestsTheWriteCount :=
  fun i _ at_ returns => ⟨exec_txFlush_short i at_ returns, exec_txFlush_full i at_ returns⟩

/-- Settles O25: one lemma for each of the three exits of the query. -/
theorem pollQueryDecidesTheLoop : Obligations.PollQueryDecidesTheLoop :=
  fun i _ at_ => ⟨exec_pollQ_answered i at_, exec_pollQ_bound i at_, exec_pollQ_more i at_⟩

/-- Settles O26: the sleep is a call and no more. -/
theorem pollSleepReturnsToTheQuery : Obligations.PollSleepReturnsToTheQuery :=
  fun i _ at_ => exec_pollSleep i at_

/-- Settles O27: ACOUNT decides between RX_READ and UnexpectedAvailableCount. -/
theorem availCheckRequiresExactlyNine : Obligations.AvailCheckRequiresExactlyNine :=
  fun i _ at_ => ⟨exec_availCheck_nine i at_, exec_availCheck_other i at_⟩

/-- Settles O29: one lemma for each outcome of the four steps. -/
theorem cacheFlushSteps : Obligations.CacheFlushSteps :=
  fun i _ => ⟨exec_cfFlush i, fun at_ => ⟨exec_cfPollQ_last i at_, exec_cfPollQ_more i at_⟩, exec_cfPollSleep i,
    fun at_ => ⟨exec_cfDrain_done i at_,
      fun left returns => ⟨exec_cfDrain_none i at_ left returns, fun _ => exec_cfDrain_byte i at_ left returns⟩⟩⟩

end Sys2Proof.Machine
end

section
/-! The two poll-wait loops (42_transport_exchange.md R164 to R168, R170 to R172) have one shape, so their rounds of an
unanswered query and a sleep are counted once; then the drain (R173), and a whole operation with a silent sensor. -/

namespace Sys2Proof.Machine

/-- Runs follow one another. -/
theorem run_add {s t : State} {a : Nat} (first : s.run a = .next t) (b : Nat) : s.run (a + b) = t.run b := by
  induction a generalizing s with
  | zero =>
    rw [run_zero, Host.Outcome.next.injEq] at first
    rw [first, Nat.zero_add]
  | succ a ih =>
    obtain ⟨s1, step, rest⟩ := run_succ_next first
    rw [Nat.succ_add, run_succ (a + b) step, ih rest]

theorem performs_of_le {s : State} (hung : s.hung = false) (op : s.opR.toNat ≤ 4) : ∃ i, s.performs i := by
  obtain ⟨i, dec⟩ := decodeFields_of_le s.argR op
  exact ⟨i, hung, dec⟩

/-- A list of inputs split for two runs that follow one another. -/
theorem exists_append_of_length {l : List Input} {m n : Nat} (length : l.length = m + n) :
    ∃ xs ys, l = xs ++ ys ∧ xs.length = m ∧ ys.length = n :=
  ⟨l.take m, l.drop m, (List.take_append_drop m l).symm, by simp [length], by simp [length]⟩

/-! The rounds of a poll-wait loop. -/

/-- The calls of `n` unanswered rounds, newest first: a query, then a sleep (R168). -/
def roundCalls (n d : Nat) : List Call :=
  (List.replicate n [.sleep d, .available]).flatten

theorem roundCalls_add (m n d : Nat) : roundCalls (m + n) d = roundCalls m d ++ roundCalls n d := by
  simp only [roundCalls, ← List.replicate_append_replicate, List.flatten_append]

/-- A loop of `n + 1` queries is `n` rounds and a last query. -/
theorem pollCalls_succ (n d : Nat) : pollCalls (n + 1) d = .available :: roundCalls n d := by
  induction n with
  | zero => rfl
  | succ n ih => rw [pollCalls, ih, Nat.add_comm n 1, roundCalls_add]; rfl

/-- `s` after `n` unanswered rounds, `a` in ACOUNT and the inputs `l` still to come. -/
def State.afterRounds (s : State) (n a : Nat) (l : List Input) : State :=
  { s with
    acount := a, pollCnt := s.pollCnt + n, inputs := l, tick := s.tick + 2 * n,
    calls := roundCalls n s.cfg.pollDelay ++ s.calls }

theorem State.afterRounds_zero (s : State) : s.afterRounds 0 s.acount s.inputs = s := rfl

theorem State.afterRounds_afterRounds (s : State) (m n a b : Nat) (k l : List Input) :
    (s.afterRounds m a k).afterRounds n b l = s.afterRounds (n + m) b l := by
  simp only [State.afterRounds, roundCalls_add, List.append_assoc, Nat.mul_add, Nat.add_assoc, Nat.add_comm m,
    Nat.add_comm (2 * m)]

/-- What the poll-wait loop and the settle wait have in common: in `query` an answer of 0 below the bound goes to `sleep`,
which goes back. -/
structure PollLoop (query sleep : Fsm) : Prop where
  query_running : query ≠ .idle
  sleep_running : sleep ≠ .idle
  unanswered (i : Instr) (s : State) : s.fsm = query → s.input.available = 0 → s.pollCnt + 1 ≠ s.cfg.pollMax →
    exec i s = .next { s.after [.available] with
      acount := s.input.available, pollCnt := s.pollCnt + 1, fsm := sleep }
  slept (i : Instr) (s : State) : s.fsm = sleep →
    exec i s = .next { s.after [.sleep s.cfg.pollDelay] with fsm := query }

/-- The poll-wait loop (R164, R165). -/
theorem pollLoop_exchange : PollLoop .pollQ .pollSleep :=
  ⟨by decide, by decide, fun i _ => exec_pollQ_more i, fun i _ => exec_pollSleep i⟩

/-- The settle wait (R171, R172). -/
theorem pollLoop_settle : PollLoop .cfPollQ .cfPollSleep :=
  ⟨by decide, by decide, fun i _ => exec_cfPollQ_more i, fun i _ => exec_cfPollSleep i⟩

section
variable {query sleep : Fsm} {i : Instr} {s : State} {ys rest : List Input} {x : Input} {n : Nat}

/-- One unanswered round. -/
theorem PollLoop.run_round (loop : PollLoop query sleep) {y z : Input} (performs : s.performs i) (at_ : s.fsm = query)
    (inputs : s.inputs = y :: z :: rest) (below : s.pollCnt + 1 < s.cfg.pollMax) (qy : quiet y) (qz : quiet z)
    (zero : y.available = 0) : s.run 2 = .next (s.afterRounds 1 0 rest) := by
  have input := State.input_cons inputs
  have meaning := loop.unanswered i s at_ (by rw [input, zero]) below.ne
  calc s.run 2
    _ = State.run 1 { s with
        acount := 0, pollCnt := s.pollCnt + 1, fsm := sleep, inputs := z :: rest, tick := s.tick + 1,
        calls := .available :: s.calls } :=
      run_performs 1 performs inputs qy (meaning.trans (by simp [State.after, inputs, input, zero]))
        (at_ ▸ loop.query_running)
    _ = .next _ := run_performs 0 performs rfl qz (loop.slept i _ rfl) loop.sleep_running
    _ = .next (s.afterRounds 1 0 rest) := by rw [← at_]; rfl

/-- `n` unanswered rounds. They leave 0 in ACOUNT, or what was there when there is none; the next query writes it
anyhow. -/
theorem PollLoop.run_rounds (loop : PollLoop query sleep) (performs : s.performs i) (at_ : s.fsm = query)
    (inputs : s.inputs = ys ++ rest) (length : ys.length = 2 * n) (below : s.pollCnt + n < s.cfg.pollMax)
    (silent : ∀ y ∈ ys, quiet y ∧ y.available = 0) : ∃ a, s.run (2 * n) = .next (s.afterRounds n a rest) := by
  induction n generalizing s ys with
  | zero =>
    obtain rfl := List.length_eq_zero_iff.mp length
    rw [List.nil_append] at inputs
    exact ⟨s.acount, by rw [← inputs, State.afterRounds_zero]; rfl⟩
  | succ n ih =>
    obtain ⟨pair, ys, rfl, two, lengthYs⟩ := exists_append_of_length (l := ys) (m := 2) (n := 2 * n) (by omega)
    obtain ⟨y, z, rfl⟩ := List.length_eq_two.mp two
    simp only [List.cons_append, List.nil_append, List.forall_mem_cons] at silent
    obtain ⟨⟨qy, zero⟩, ⟨qz, -⟩, silent⟩ := silent
    have round : s.run 2 = .next (s.afterRounds 1 0 (ys ++ rest)) :=
      loop.run_round performs at_ inputs (by omega) qy qz zero
    obtain ⟨a, rounds⟩ := ih (s := s.afterRounds 1 0 (ys ++ rest)) performs at_ rfl lengthYs
      (by simp only [State.afterRounds]; omega) silent
    refine ⟨a, ?_⟩
    rw [Nat.mul_add_one, Nat.add_comm, run_add round, rounds, State.afterRounds_afterRounds]

/-- `n` unanswered rounds and one more query, whose outcome the loop leaves to `last`. -/
theorem PollLoop.run_last (loop : PollLoop query sleep) {t : State} (performs : s.performs i) (at_ : s.fsm = query)
    (inputs : s.inputs = ys ++ x :: rest) (length : ys.length = 2 * n) (below : s.pollCnt + n < s.cfg.pollMax)
    (silent : ∀ y ∈ ys, quiet y ∧ y.available = 0) (undisturbed : quiet x)
    (last : ∀ a, exec i (s.afterRounds n a (x :: rest)) = .next t) : s.run (2 * n + 1) = .next t := by
  obtain ⟨a, rounds⟩ := loop.run_rounds performs at_ inputs length below silent
  rw [run_add rounds]
  exact run_performs 0 performs rfl undisturbed (last a) (at_ ▸ loop.query_running)

/-! The exits of the two loops. -/

/-- POLL_MAX unanswered queries end in NoResponse (R168). -/
theorem run_pollQ_silent (performs : s.performs i) (at_ : s.fsm = .pollQ) (zero : s.pollCnt = 0)
    (inputs : s.inputs = ys ++ rest) (length : ys.length = 2 * n + 1) (bound : s.cfg.pollMax = n + 1)
    (silent : ∀ y ∈ ys, quiet y ∧ y.available = 0) :
    s.run (2 * n + 1) = .next { s with
      acount := 0, pollCnt := n + 1, err := 3, fsm := .cfFlush, inputs := rest, tick := s.tick + (2 * n + 1),
      calls := pollCalls (n + 1) s.cfg.pollDelay ++ s.calls } := by
  obtain ⟨ys, tail, rfl, lengthYs, one⟩ := exists_append_of_length length
  obtain ⟨x, rfl⟩ := List.length_eq_one_iff.mp one
  obtain ⟨undisturbed, unanswered⟩ := silent x (by simp)
  rw [List.append_assoc, List.singleton_append] at inputs
  refine pollLoop_exchange.run_last performs at_ inputs lengthYs (by omega)
    (fun y hy => silent y (List.mem_append_left [x] hy)) undisturbed fun a => ?_
  have last : (s.afterRounds n a (x :: rest)).pollCnt + 1 = s.cfg.pollMax := by simp [State.afterRounds, zero, bound]
  rw [exec_pollQ_bound (s := s.afterRounds n a (x :: rest)) i at_ unanswered last]
  simp [State.afterRounds, State.after, State.input, unanswered, zero, pollCalls_succ, Nat.add_assoc]

/-- The first answered query, within the bound, ends in AVAIL_CHECK (R168). -/
theorem run_pollQ_answered (performs : s.performs i) (at_ : s.fsm = .pollQ) (zero : s.pollCnt = 0)
    (inputs : s.inputs = ys ++ x :: rest) (length : ys.length = 2 * n) (below : n < s.cfg.pollMax)
    (silent : ∀ y ∈ ys, quiet y ∧ y.available = 0) (undisturbed : quiet x) (answered : 0 < x.available) :
    s.run (2 * n + 1) = .next { s with
      acount := x.available, pollCnt := n + 1, fsm := .availCheck, inputs := rest, tick := s.tick + (2 * n + 1),
      calls := pollCalls (n + 1) s.cfg.pollDelay ++ s.calls } := by
  refine pollLoop_exchange.run_last performs at_ inputs length (by omega) silent undisturbed fun a => ?_
  rw [exec_pollQ_answered (s := s.afterRounds n a (x :: rest)) i at_ answered]
  simp [State.afterRounds, State.after, State.input, zero, pollCalls_succ, Nat.add_assoc]

/-- CF_FLUSH and the settle wait, up to the first answered query or the bound (R170 to R172). -/
theorem run_settle {x0 : Input} (performs : s.performs i) (at_ : s.fsm = .cfFlush)
    (inputs : s.inputs = x0 :: ys ++ x :: rest) (length : ys.length = 2 * n)
    (last : n + 1 = s.cfg.pollMax ∨ (n + 1 < s.cfg.pollMax ∧ 0 < x.available)) (q0 : quiet x0)
    (silent : ∀ y ∈ ys, quiet y ∧ y.available = 0) (undisturbed : quiet x) :
    s.run (2 * (n + 1)) = .next { s with
      acount := x.available, pollCnt := n + 1, drainLeft := x.available, fsm := .cfDrain, inputs := rest,
      tick := s.tick + 2 * (n + 1), calls := pollCalls (n + 1) s.cfg.pollDelay ++ .flush :: s.calls } := by
  have returns : s.input.returns = true := (quiet_input inputs q0).returns
  calc s.run (2 * n + 1 + 1)
    _ = State.run (2 * n + 1) { s with
        pollCnt := 0, fsm := .cfPollQ, inputs := ys ++ x :: rest, tick := s.tick + 1, calls := .flush :: s.calls } :=
      run_performs _ performs inputs q0 ((exec_cfFlush i at_ returns).trans (by simp [State.after, inputs]))
        (by simp [at_])
    _ = _ := by
      refine pollLoop_settle.run_last performs rfl rfl length (by simp only; omega) silent undisturbed fun a => ?_
      rw [exec_cfPollQ_last i rfl (by simp [State.afterRounds, State.input]; omega)]
      simp [State.afterRounds, State.after, State.input, pollCalls_succ, Nat.add_assoc, Nat.add_comm 1, Nat.mul_add]

/-! The drain (R173). -/

/-- As many reads as there are bytes, at most DRAIN_LEFT. -/
theorem run_drain (performs : s.performs i) (at_ : s.fsm = .cfDrain) (inputs : s.inputs = ys ++ rest)
    (left : ys.length ≤ s.drainLeft) (bytes : ∀ y ∈ ys, quiet y ∧ y.drained.isSome = true) :
    s.run ys.length = .next { s with
      drainLeft := s.drainLeft - ys.length, inputs := rest, tick := s.tick + ys.length,
      calls := List.replicate ys.length .read ++ s.calls } := by
  induction ys generalizing s with
  | nil =>
    rw [List.nil_append] at inputs
    rw [← inputs]
    rfl
  | cons y ys ih =>
    rw [List.forall_mem_cons] at bytes
    obtain ⟨⟨qy, isSome⟩, bytes⟩ := bytes
    obtain ⟨b, byte⟩ := Option.isSome_iff_exists.mp isSome
    rw [← State.input_cons inputs] at byte
    rw [List.length_cons] at left
    calc s.run (ys.length + 1)
      _ = State.run ys.length { s with
          drainLeft := s.drainLeft - 1, inputs := ys ++ rest, tick := s.tick + 1, calls := .read :: s.calls } :=
        run_performs _ performs inputs qy ((exec_cfDrain_byte i at_ (by omega) (quiet_input inputs qy).returns byte).trans
          (by simp [State.after, inputs, at_])) (by simp [at_])
      _ = .next _ := ih performs at_ rfl (by simp only; omega) bytes
      _ = _ := by simp [List.replicate_succ', Nat.add_comm, Nat.add_left_comm, Nat.sub_sub]

end

/-- Settles O37: POLL_MAX - 1 unanswered rounds, then the query that reaches the bound. -/
theorem noResponseAfterExactlyPollMaxQueries : Obligations.NoResponseAfterExactlyPollMaxQueries := by
  intro s ys rest at_ zero hung op pos inputs length silent
  obtain ⟨i, performs⟩ := performs_of_le hung op
  obtain ⟨n, bound⟩ : ∃ n, s.cfg.pollMax = n + 1 := Nat.exists_eq_add_of_le' pos
  have steps : 2 * s.cfg.pollMax - 1 = 2 * n + 1 := by omega
  rw [steps] at length ⊢
  rw [bound]
  exact run_pollQ_silent performs at_ zero inputs length bound silent

/-- Settles O38: q - 1 unanswered rounds, then the answered query. -/
theorem pollLoopEndsAtTheFirstNonzeroCount : Obligations.PollLoopEndsAtTheFirstNonzeroCount := by
  intro s q ys rest x at_ zero hung op pos bound inputs length silent undisturbed answered
  obtain ⟨i, performs⟩ := performs_of_le hung op
  obtain ⟨n, rfl⟩ : ∃ n, q = n + 1 := Nat.exists_eq_add_of_le' pos
  exact run_pollQ_answered performs at_ zero inputs length bound silent undisturbed answered

/-- Settles O39: the flush, q - 1 unanswered rounds, then the query that is answered or reaches the bound. -/
theorem settleWaitLoadsTheDrainCount : Obligations.SettleWaitLoadsTheDrainCount := by
  intro s q x0 ys rest x at_ hung op pos last inputs length q0 silent undisturbed
  obtain ⟨i, performs⟩ := performs_of_le hung op
  obtain ⟨n, rfl⟩ : ∃ n, q = n + 1 := Nat.exists_eq_add_of_le' pos
  exact run_settle performs at_ inputs length last q0 silent undisturbed

/-- Settles O40: the bytes there are, then the step that finds DRAIN_LEFT at 0 or the read that answers none. -/
theorem drainReadsTheCountedBytes : Obligations.DrainReadsTheCountedBytes := by
  refine ⟨fun s ys rest z at_ hung op inputs length bytes qz => ?_,
    fun s ys rest z at_ hung op inputs left bytes qz empty => ?_⟩
  all_goals obtain ⟨i, performs⟩ := performs_of_le hung op
  · rw [← length, run_add (run_drain performs at_ inputs length.le bytes)]
    have done : s.drainLeft - ys.length = 0 := by omega
    refine run_performs 0 performs rfl qz (Eq.trans (exec_cfDrain_done i at_ done) ?_) (by simp [at_])
    simp [State.after, done, Nat.add_assoc]
  · rw [run_add (run_drain performs at_ inputs left.le bytes)]
    have more : 0 < s.drainLeft - ys.length := by omega
    refine run_performs 0 performs rfl qz (Eq.trans (exec_cfDrain_none i at_ more qz.returns empty) ?_) (by simp [at_])
    simp [State.after, List.replicate_succ, Nat.add_assoc]

end Sys2Proof.Machine
end

section
/-! Two whole operations (42_transport_exchange.md R178, 44_operations.md R226): a READ_CO2 with a good response, and any
operation with a silent sensor. -/

namespace Sys2Proof.Machine

/-! The reading of a response frame (43_response_validator.md R205, R206). -/

/-- PPM does not wrap: two bytes are below 2^16. -/
theorem framePpm_toNat (f : Frame) : (framePpm f).toNat = 256 * f.b2.toNat + f.b3.toNat := by
  have high := f.b2.isLt
  have low := f.b3.isLt
  rw [framePpm, BitVec.toNat_ofNat]
  omega

/-- TEMP does not wrap: the difference is made in nine bits. -/
theorem frameTemp_toInt (f : Frame) : (frameTemp f).toInt = (f.b4.toNat : Int) - 40 := by
  have byte : ∀ b : Byte, ((b.zeroExtend 9 - tempOffset).signExtend 16).toInt = (b.toNat : Int) - 40 := by decide
  exact byte f.b4

/-- Nine bytes received are the whole frame. -/
theorem placeReceived_frameBytes (f g : Frame) : placeReceived g (frameBytes f) = f := rfl

section
variable {i : Instr} {s : State} {rest : List Input}

theorem exec_validate_pass (i : Instr) (at_ : s.fsm = .validate) (header : s.buf.b0 = 0xFF) (ck : verify s.buf = true)
    (echo : s.cfg.echoCheck = false ∨ s.buf.b1 = (operationOf s.cfg i).cmd) :
    exec i s = .next { s.after [] with ckComputed := s.buf.b8, ckReceived := s.buf.b8, fsm := .decode } := by
  have same : checksum s.buf = s.buf.b8 := (verify_iff s.buf).mp ck
  have noMismatch : ¬(s.cfg.echoCheck = true ∧ s.buf.b1 ≠ (operationOf s.cfg i).cmd) := by
    rintro ⟨on, other⟩
    exact echo.elim (fun off => by simp [on] at off) other
  rw [exec_eq]
  simp only [State.transition, at_, State.validate, header, hdr, same, ne_eq, not_true_eq_false, if_false]
  rw [if_neg noMismatch]
  rfl

theorem exec_decode (i : Instr) (at_ : s.fsm = .decode) :
    exec i s = .next { s.after [] with
      ppm := framePpm s.buf, temp := frameTemp s.buf, resValid := true, fsm := .complete } := by
  rw [exec_eq]
  simp only [State.transition, at_]
  rfl

/-- From RX_READ of a READ_CO2, nine bytes that pass every check give the reading after four steps. -/
theorem run_goodResponse {a : Half} {f : Frame} {x1 x2 x3 x4 : Input} (performs : s.performs (.readCo2 a))
    (at_ : s.fsm = .rxRead) (inputs : s.inputs = x1 :: x2 :: x3 :: x4 :: rest)
    (undisturbed : ∀ x ∈ [x1, x2, x3, x4], quiet x) (received : x1.received = frameBytes f) (header : f.b0 = 0xFF)
    (ck : verify f = true) (echo : s.cfg.echoCheck = false ∨ f.b1 = 0x86) :
    s.run 4 = .next { s with
      rcount := 9, buf := f, ckComputed := f.b8, ckReceived := f.b8, ppm := framePpm f, temp := frameTemp f,
      resValid := true, status := s.err, result := resultOf 0 s.err (framePpm f), busy := false, done := true,
      fsm := .idle, inputs := rest, tick := s.tick + 4, calls := .readBytes 9 :: s.calls } := by
  simp only [List.forall_mem_cons, List.not_mem_nil, false_imp_iff, implies_true, and_true] at undisturbed
  obtain ⟨q1, q2, q3, q4⟩ := undisturbed
  have bytes : s.input.received = frameBytes f := by rw [State.input_cons inputs, received]
  have read := exec_rxRead_full (.readCo2 a) at_ (quiet_input inputs q1).returns (by rw [bytes]; exact le_refl 9)
  rw [bytes, placeReceived_frameBytes] at read
  calc s.run 4
    _ = State.run 3 { s with
        rcount := 9, buf := f, fsm := .validate, inputs := x2 :: x3 :: x4 :: rest, tick := s.tick + 1,
        calls := .readBytes 9 :: s.calls } :=
      run_performs 3 performs inputs q1 (read.trans (by simp [State.after, inputs, Instr.op])) (by simp [at_])
    _ = State.run 2 { s with
        rcount := 9, buf := f, ckComputed := f.b8, ckReceived := f.b8, fsm := .decode, inputs := x3 :: x4 :: rest,
        tick := s.tick + 2, calls := .readBytes 9 :: s.calls } :=
      run_performs 2 performs rfl q2 (exec_validate_pass _ rfl header ck echo)
    _ = State.run 1 { s with
        rcount := 9, buf := f, ckComputed := f.b8, ckReceived := f.b8, ppm := framePpm f, temp := frameTemp f,
        resValid := true, fsm := .complete, inputs := x4 :: rest, tick := s.tick + 3,
        calls := .readBytes 9 :: s.calls } :=
      run_performs 1 performs rfl q3 (exec_decode _ rfl)
    _ = _ := run_performs 0 performs rfl q4 (exec_complete _ rfl)

/-! A silent sensor. -/

/-- From ARGCHK with a legal argument and a full write the engine comes to POLL_Q after four steps. -/
theorem run_sent {x1 x2 x3 x4 : Input} (k : Nat) (performs : s.performs i) (at_ : s.fsm = .argchk)
    (legal : i.wellFormed = true) (inputs : s.inputs = x1 :: x2 :: x3 :: x4 :: rest)
    (undisturbed : ∀ x ∈ [x1, x2, x3, x4], quiet x) (written : 9 ≤ x3.written) :
    s.run (k + 4) = State.run k { s with
      buf := encodeFrame s.cfg i, wcount := x3.written, pollCnt := 0, fsm := .pollQ, inputs := rest,
      tick := s.tick + 4, calls := .flush :: .write (frameBytes (encodeFrame s.cfg i)) :: s.calls } := by
  simp only [List.forall_mem_cons, List.not_mem_nil, false_imp_iff, implies_true, and_true] at undisturbed
  obtain ⟨q1, q2, q3, q4⟩ := undisturbed
  calc s.run (k + 4)
    _ = State.run (k + 3) { s with fsm := .build, inputs := x2 :: x3 :: x4 :: rest, tick := s.tick + 1 } :=
      run_performs _ performs inputs q1 ((exec_argchk_legal at_ legal).trans (by simp [State.after, inputs]))
        (by simp [at_])
    _ = State.run (k + 2) { s with
        buf := encodeFrame s.cfg i, fsm := .txWrite, inputs := x3 :: x4 :: rest, tick := s.tick + 2 } :=
      run_performs _ performs rfl q2 (exec_build i rfl)
    _ = State.run (k + 1) { s with
        buf := encodeFrame s.cfg i, wcount := x3.written, fsm := .txFlush, inputs := x4 :: rest, tick := s.tick + 3,
        calls := .write (frameBytes (encodeFrame s.cfg i)) :: s.calls } :=
      run_performs _ performs rfl q3 (exec_txWrite i rfl q3.returns)
    _ = _ := run_performs _ performs rfl q4 (exec_txFlush_full i rfl q4.returns written)

/-- From ARGCHK with a legal argument, a full write and POLL_MAX unanswered queries the engine comes to CF_FLUSH with
NoResponse (42_transport_exchange.md R168). -/
theorem run_unanswered {n : Nat} {ys : List Input} (performs : s.performs i) (at_ : s.fsm = .argchk)
    (legal : i.wellFormed = true) (inputs : s.inputs = ys ++ rest) (length : ys.length = 4 + (2 * n + 1))
    (bound : s.cfg.pollMax = n + 1) (silent : ∀ y ∈ ys, quiet y ∧ y.written = 9 ∧ y.available = 0) :
    s.run (2 * n + 1 + 4) = .next { s with
      buf := encodeFrame s.cfg i, wcount := 9, acount := 0, pollCnt := n + 1, err := 3, fsm := .cfFlush, inputs := rest,
      tick := s.tick + 4 + (2 * n + 1),
      calls := pollCalls (n + 1) s.cfg.pollDelay ++
        .flush :: .write (frameBytes (encodeFrame s.cfg i)) :: s.calls } := by
  obtain ⟨sending, ys, rfl, four, lengthYs⟩ := exists_append_of_length length
  obtain ⟨x1, x2, x3, x4, rfl⟩ : ∃ x1 x2 x3 x4, sending = [x1, x2, x3, x4] := by
    match sending, four with
    | [x1, x2, x3, x4], _ => exact ⟨x1, x2, x3, x4, rfl⟩
  rw [List.forall_mem_append] at silent
  obtain ⟨sent, silent⟩ := silent
  obtain ⟨-, written, -⟩ := sent x3 (by simp)
  rw [run_sent (rest := ys ++ rest) _ performs at_ legal (inputs.trans (by simp)) (fun x hx => (sent x hx).1) written.ge,
    written]
  exact run_pollQ_silent (by exact performs) rfl rfl rfl lengthYs bound fun y hy => (silent y hy).imp_right And.right

/-- A cache flush in which no query is answered, and COMPLETE (42_transport_exchange.md R170 to R173). -/
theorem run_flush_silent {n : Nat} {ys : List Input} (performs : s.performs i) (at_ : s.fsm = .cfFlush)
    (inputs : s.inputs = ys ++ rest) (length : ys.length = 2 * n + 4) (bound : s.cfg.pollMax = n + 1)
    (silent : ∀ y ∈ ys, quiet y ∧ y.available = 0) :
    s.run (2 * n + 4) = .next { s with
      acount := 0, pollCnt := n + 1, drainLeft := 0, status := s.err, result := resultOf i.op s.err s.ppm, busy := false,
      done := true, fsm := .idle, inputs := rest, tick := s.tick + (2 * n + 4),
      calls := pollCalls (n + 1) s.cfg.pollDelay ++ .flush :: s.calls } := by
  obtain ⟨x0, ys, rfl⟩ := List.exists_cons_of_length_eq_add_one length
  obtain ⟨ys, three, rfl, lengthYs, three_length⟩ := exists_append_of_length (l := ys) (m := 2 * n) (n := 3)
    (by simpa using length)
  obtain ⟨x, z1, z2, rfl⟩ := List.length_eq_three.mp three_length
  simp only [List.forall_mem_cons, List.forall_mem_append] at silent
  obtain ⟨⟨q0, -⟩, silent, ⟨q, unanswered⟩, ⟨q1, -⟩, ⟨q2, -⟩, -⟩ := silent
  have settled : s.run (2 * n + 2) = .next _ :=
    run_settle (rest := z1 :: z2 :: rest) performs at_ (inputs.trans (by simp)) lengthYs (.inl bound.symm) q0 silent q
  calc s.run (2 * n + 2 + 2)
    _ = State.run 2 _ := run_add settled 2
    _ = State.run 1 _ := run_performs 1 performs rfl q1 (exec_cfDrain_done i rfl unanswered)
    _ = .next _ := run_performs 0 performs rfl q2 (exec_complete i rfl)
    _ = _ := by simp [State.after, unanswered, Nat.mul_add, Nat.add_assoc]

end

/-- Settles O34: START acceptance, six steps of the exchange and the four of a good response. -/
theorem readCo2SucceedsOnAGoodResponse : Obligations.ReadCo2SucceedsOnAGoodResponse := by
  intro s w x0 x1 x2 x3 x4 x5 x6 x7 x8 x9 x10 rest f waiting inputs start op undisturbed written available received
    header ck echo
  have op0 : wordOp w = 0 := BitVec.eq_of_toNat_eq ((wordOp_toNat w).trans op)
  have ⟨_, hung⟩ := waiting
  have performs : ((s.accept 0 (wordArg w)).advance).performs (.readCo2 (wordArg w)) :=
    performs_accept hung (.readCo2 (wordArg w))
  have run := calc s.run 11
    _ = (s.accept 0 (wordArg w)).advance.run 10 := by rw [run_started 10 waiting inputs start, op0]
    _ = State.run 4 _ := run_exchange 4 rfl performs rfl (congrArg List.tail inputs)
        (fun x hx => undisturbed x (List.mem_append_left [x7, x8, x9, x10] hx)) written available
    _ = .next _ := run_goodResponse performs rfl rfl
        (fun x hx => undisturbed x (List.mem_append_right [x1, x2, x3, x4, x5, x6] hx)) received header ck echo
  refine ⟨_, run, rfl, rfl, rfl, rfl, rfl, framePpm_toNat f, frameTemp_toInt f, ?_, rfl, rfl, rfl, rfl, rfl, rfl⟩
  rw [← framePpm_toNat]
  exact resultOf_reading_toInt (framePpm f)

/-- Settles O41: the frame is sent, no query of the exchange is answered, nor any of the cache flush. -/
theorem silentSensorEndsInNoResponse : Obligations.SilentSensorEndsInNoResponse := by
  intro s w i x0 ys rest waiting pos inputs length start dec legal silent
  obtain ⟨n, bound⟩ : ∃ n, s.cfg.pollMax = n + 1 := Nat.exists_eq_add_of_le' pos
  obtain ⟨op, arg⟩ := decodeFields_ok dec
  have ⟨_, hung⟩ := waiting
  have performs : ((s.accept i.op i.arg).advance).performs i := performs_accept hung i
  obtain ⟨polls, flush, rfl, lengthPolls, lengthFlush⟩ :=
    exists_append_of_length (l := ys) (m := 4 + (2 * n + 1)) (n := 2 * n + 4) (by omega)
  rw [List.forall_mem_append] at silent
  obtain ⟨silentPolls, silentFlush⟩ := silent
  have tail : ((s.accept i.op i.arg).advance).inputs = polls ++ (flush ++ rest) :=
    (congrArg List.tail inputs).trans (List.append_assoc polls flush rest)
  have steps : 4 * s.cfg.pollMax + 6 = 2 * n + 1 + 4 + (2 * n + 4) + 1 := by omega
  rw [steps, bound, run_started _ waiting inputs start, ← op, ← arg,
    run_add (run_unanswered performs rfl legal tail lengthPolls bound silentPolls)]
  have flushed := fun y hy => (silentFlush y hy).imp_right And.right
  exact ⟨_, run_flush_silent (by exact performs) rfl rfl lengthFlush bound flushed, rfl, rfl, rfl, rfl,
    resultOf_failed_toInt i.op 0 (e := 3) (by decide), rfl, rfl, rfl, rfl, rfl, rfl, rfl⟩

end Sys2Proof.Machine
end

section
/-! How long an operation takes (42_transport_exchange.md R177): each engine step brings `State.stepsLeft` down by one,
but for the steps of the drain, which are counted apart and bring DRAIN_LEFT down. -/

namespace Sys2Proof.Machine

section
variable {s : State} {d : Operation}

theorem transition_hung (returns : s.input.returns = true) : (s.transition d).hung = s.hung := by
  cases transition_cases s d
  case blocked ret _ => rw [returns] at ret; cases ret
  all_goals next eq => simp only [eq, State.accept_hung]

/-- Outside the drain an engine step brings the measure down; in it the measure does not rise. -/
theorem transition_stepsLeft (h : s.PollInv) (running : s.fsm ≠ .idle) (returns : s.input.returns = true) :
    (s.transition d).stepsLeft + 1 ≤ s.stepsLeft + if s.fsm = .cfDrain then 1 else 0 := by
  obtain ⟨pos, inLoop, -⟩ := h
  cases transition_cases s d
  case accepted at_ _ => exact absurd at_ running
  case blocked ret _ => rw [returns] at ret; cases ret
  case pollData at_ _ eq | pollBound at_ _ _ eq | pollMore at_ _ _ eq | settled at_ _ eq | settleMore at_ _ _ eq =>
    have below := inLoop (by rw [at_]; rfl)
    simp [eq, State.stepsLeft, at_]
    omega
  case fullRead at_ _ _ eq | badHeader at_ _ eq | badChecksum at_ _ _ eq | badEcho at_ _ _ _ eq =>
    rw [eq]
    split <;> simp [State.stepsLeft, at_] <;> omega
  all_goals next eq => simp [eq, State.stepsLeft, ‹s.fsm = _›] <;> omega

/-- A step of the drain that answers a byte takes one from DRAIN_LEFT, and every other goes to COMPLETE. -/
theorem transition_cfDrain (at_ : s.fsm = .cfDrain) (returns : s.input.returns = true) :
    (s.transition d).fsm = .complete ∨
      (s.transition d).fsm = .cfDrain ∧ (s.transition d).drainLeft + 1 = s.drainLeft := by
  cases transition_cases s d
  case drainDone eq | drainEmpty eq => rw [eq]; exact .inl rfl
  case drainByte left _ _ eq => rw [eq]; exact .inr ⟨at_, Nat.succ_pred left⟩
  case blocked ret _ => rw [returns] at ret; cases ret
  all_goals exact absurd (‹s.fsm = _›.symm.trans at_) (by decide)

end

/-- With no disturbance an answered step outside IDLE is an engine step of the operation in progress, reserved or not. -/
theorem step_runs {s t : State} (hung : s.hung = false) (undisturbed : quiet s.input) (running : s.fsm ≠ .idle)
    (h : step s = .next t) : ∃ d, s.Runs d ∧ t = (s.transition d).advance := by
  obtain ⟨noReset, config, -⟩ := undisturbed
  cases step_cases_of_none config h with
  | hanging hangs _ => rw [hung] at hangs; cases hangs
  | reset _ rst _ => rw [noReset] at rst; cases rst
  | waiting _ _ idle _ _ => exact absurd idle running
  | accepted _ _ idle _ _ => exact absurd idle running
  | running i _ _ _ dec eq => exact ⟨_, runs_operationOf hung running dec, eq⟩
  | rejected _ _ argchk _ eq =>
    refine ⟨_, runs_reservedOperation hung (.inl argchk), ?_⟩
    simp [eq, State.transition, argchk, State.argchk, reservedOperation]
  | reservedDone _ _ complete _ eq =>
    refine ⟨_, runs_reservedOperation hung (.inr complete), ?_⟩
    simp [eq, State.transition, complete, reservedOperation]

/-- The next `n` steps have listed, quiet inputs and are all taken in an operation. -/
structure State.Undisturbed (n : Nat) (s : State) : Prop where
  hung : s.hung = false
  listed : n ≤ s.inputs.length
  quiet_inputs : ∀ x ∈ s.inputs.take n, quiet x
  in_operation : ∀ u ∈ State.visited n s, u.fsm ≠ .idle

section
variable {n : Nat} {s : State}

theorem mem_visited (n : Nat) (s : State) : s ∈ State.visited (n + 1) s :=
  List.mem_cons_self

theorem State.Undisturbed.running (h : s.Undisturbed (n + 1)) : s.fsm ≠ .idle :=
  h.in_operation s (mem_visited n s)

theorem State.Undisturbed.input (h : s.Undisturbed (n + 1)) : quiet s.input := by
  obtain ⟨-, listed, quiet_inputs, -⟩ := h
  obtain ⟨x, rest, inputs⟩ := List.exists_cons_of_length_pos (Nat.zero_lt_of_lt listed)
  rw [State.input_cons inputs]
  exact quiet_inputs x (by simp [inputs])

theorem State.Undisturbed.eq_zero_of_idle (h : s.Undisturbed n) (idle : s.fsm = .idle) : n = 0 := by
  cases n with
  | zero => rfl
  | succ n => exact absurd idle h.running

/-- The first of the steps: it is the last if it answers no next state, and otherwise the rest start after an engine step
of the operation in progress. -/
theorem State.Undisturbed.visited_succ (h : s.Undisturbed (n + 1)) :
    State.visited (n + 1) s = [s] ∨ ∃ d, (s.transition d).advance.Undisturbed n ∧
      State.visited (n + 1) s = s :: State.visited n (s.transition d).advance := by
  cases answer : step s with
  | fault r => exact .inl (by simp only [State.visited, answer])
  | refused r => exact .inl (by simp only [State.visited, answer])
  | next t =>
    obtain ⟨d, runs, rfl⟩ := step_runs h.hung h.input h.running answer
    have later : State.visited (n + 1) s = s :: State.visited n (s.transition d).advance := by
      simp only [State.visited, answer]
    obtain ⟨-, -, returns⟩ := h.input
    obtain ⟨hung, listed, quiet_inputs, in_operation⟩ := h
    refine .inr ⟨d, ⟨(transition_hung returns).trans hung, ?_, fun x hx => quiet_inputs x ?_, fun u hu =>
      in_operation u (later ▸ List.mem_cons_of_mem s hu)⟩, later⟩
    · simp [transition_inputs]
      omega
    · rw [State.advance_inputs, transition_inputs] at hx
      exact List.mem_of_mem_tail (by rwa [List.tail_take_eq_take_tail])

/-- The number of CF_DRAIN steps among those taken in the states `l`. -/
def drainSteps (l : List State) : Nat :=
  l.countP fun u => decide (u.fsm = .cfDrain)

theorem drainSteps_cons (s : State) (l : List State) :
    drainSteps (s :: l) = drainSteps l + if s.fsm = .cfDrain then 1 else 0 := by
  simp [drainSteps, List.countP_cons]

/-- The measure bounds what is left of an operation, the drain's steps apart. -/
theorem State.Undisturbed.length_visited_le (h : s.Undisturbed n) (poll : s.PollInv) :
    (State.visited n s).length ≤ s.stepsLeft + drainSteps (State.visited n s) := by
  induction n generalizing s with
  | zero => exact Nat.zero_le _
  | succ n ih =>
    have down (d : Operation) := transition_stepsLeft (d := d) poll h.running h.input.returns
    obtain last | ⟨d, h1, later⟩ := h.visited_succ
    · have positive := down (reservedOperation s.opR s.argR)
      rw [last, drainSteps_cons, List.length_singleton]
      omega
    · have lower := down d
      have rest : (State.visited n (s.transition d).advance).length ≤
          (s.transition d).stepsLeft + drainSteps (State.visited n (s.transition d).advance) :=
        ih h1 (pollInv_transition poll)
      rw [later, drainSteps_cons, List.length_cons]
      omega

/-- After COMPLETE the operation is over. -/
theorem State.Undisturbed.drainSteps_of_complete (h : s.Undisturbed n) (at_ : s.fsm = .complete) :
    drainSteps (State.visited n s) = 0 := by
  cases n with
  | zero => rfl
  | succ n =>
    have alone : drainSteps [s] = 0 := by simp [drainSteps, at_]
    obtain last | ⟨d, h1, later⟩ := h.visited_succ
    · rw [last, alone]
    · obtain rfl := h1.eq_zero_of_idle (by simp [State.transition, at_])
      rw [later]
      exact alone

/-- DRAIN_LEFT bounds what is left of the drain. -/
theorem State.Undisturbed.drainSteps_le (h : s.Undisturbed n) (at_ : s.fsm = .cfDrain) :
    drainSteps (State.visited n s) ≤ s.drainLeft + 1 := by
  induction n generalizing s with
  | zero => exact Nat.zero_le _
  | succ n ih =>
    obtain last | ⟨d, h1, later⟩ := h.visited_succ
    · simp [last, drainSteps, at_]
    · rw [later, drainSteps_cons, if_pos at_]
      obtain complete | ⟨draining, left⟩ := transition_cfDrain (d := d) at_ h.input.returns
      · simp [h1.drainSteps_of_complete complete]
      · rw [← left]
        exact Nat.succ_le_succ (ih h1 draining)

end

/-- Settles O42: at ARGCHK the measure is the bound of R177. -/
theorem operationLengthIsBounded : Obligations.OperationLengthIsBounded := by
  refine ⟨fun n s at_ poll hung listed quiets running => ?_, fun n s at_ hung listed quiets running =>
    State.Undisturbed.drainSteps_le ⟨hung, listed, quiets, running⟩ at_⟩
  have bound := State.Undisturbed.length_visited_le ⟨hung, listed, quiets, running⟩ poll
  have measure : s.stepsLeft = 7 + 4 * s.cfg.pollMax := by simp only [State.stepsLeft, at_]
  obtain ⟨pos, -⟩ := poll
  rw [measure] at bound
  calc (State.visited n s).length
    _ ≤ 7 + 4 * s.cfg.pollMax + drainSteps (State.visited n s) := bound
    _ = 9 + 2 * (2 * s.cfg.pollMax - 1) + drainSteps (State.visited n s) := by omega

end Sys2Proof.Machine
end

section
/-! The validator's checks and the decoder (43_response_validator.md R200 to R206): one lemma for each failing check, beside
`exec_validate_pass`, and TEMP as an integer. -/

namespace Sys2Proof.Machine

section
variable {s : State} (i : Instr)

theorem exec_validate_badHeader (at_ : s.fsm = .validate) (header : s.buf.b0 ≠ 0xFF) :
    exec i s = .next { s.after [] with
      err := 6, fsm := if s.cfg.flushOnValidationFail = true then .cfFlush else .complete } := by
  rw [exec_eq]
  simp only [State.transition, at_, State.validate, if_pos (show s.buf.b0 ≠ hdr from header)]
  rfl

theorem exec_validate_badChecksum (at_ : s.fsm = .validate) (header : s.buf.b0 = 0xFF)
    (mismatch : checksum s.buf ≠ s.buf.b8) :
    exec i s = .next { s.after [] with
      ckComputed := checksum s.buf, ckReceived := s.buf.b8, err := 7,
      fsm := if s.cfg.flushOnValidationFail = true then .cfFlush else .complete } := by
  rw [exec_eq]
  simp only [State.transition, at_, State.validate, if_neg (show ¬s.buf.b0 ≠ hdr from not_not_intro header),
    if_pos mismatch]
  rfl

theorem exec_validate_badEcho (at_ : s.fsm = .validate) (header : s.buf.b0 = 0xFF) (ck : checksum s.buf = s.buf.b8)
    (echoCheck : s.cfg.echoCheck = true) (other : s.buf.b1 ≠ (operationOf s.cfg i).cmd) :
    exec i s = .next { s.after [] with
      ckComputed := checksum s.buf, ckReceived := s.buf.b8, err := 8,
      fsm := if s.cfg.flushOnValidationFail = true then .cfFlush else .complete } := by
  rw [exec_eq]
  simp only [State.transition, at_, State.validate, if_neg (show ¬s.buf.b0 ≠ hdr from not_not_intro header),
    if_neg (not_not_intro ck), if_pos (And.intro echoCheck other)]
  rfl

end

/-- R206's formula, made in the integers. -/
theorem frameTemp_eq_ofInt (f : Frame) : frameTemp f = BitVec.ofInt 16 ((f.b4.toNat : Int) - 40) := by
  rw [← frameTemp_toInt, BitVec.ofInt_toInt]

/-- Settles O30: one lemma for each outcome of the checks; the computed checksum is the negated sum. -/
theorem validateChecksInOrder : Obligations.ValidateChecksInOrder := by
  intro s a at_ failed ck t
  have computed : checksum s.buf = ck := checksum_eq_neg_byteSum s.buf
  simp only [t, ← computed]
  refine ⟨exec_validate_badHeader (.readCo2 a) at_, exec_validate_badChecksum (.readCo2 a) at_,
    exec_validate_badEcho (.readCo2 a) at_, fun header right echo => ?pass⟩
  case pass =>
    rw [right]
    exact exec_validate_pass (.readCo2 a) at_ header ((verify_iff s.buf).mpr right) echo

/-- Settles O31: the registers take the formulas' values, and neither formula leaves its register's range. -/
theorem decodeGivesPpmAndTemperature : Obligations.DecodeGivesPpmAndTemperature := by
  intro s a at_
  rw [← frameTemp_eq_ofInt]
  exact ⟨exec_decode (.readCo2 a) at_, framePpm_toNat s.buf, frameTemp_toInt s.buf⟩

end Sys2Proof.Machine
end

section
/-! START and CMD_WORD (44_operations.md R220): what START acceptance latches, and that outside IDLE a step does not depend
on the two pins. -/

namespace Sys2Proof

theorem wordOp_eq_ofNat_div (w : Word) : wordOp w = BitVec.ofNat 3 (w.toNat / 65536) :=
  BitVec.eq_of_toNat_eq (by simp [wordOp_toNat])

theorem wordArg_eq_ofNat_toNat (w : Word) : wordArg w = BitVec.ofNat 16 w.toNat :=
  BitVec.eq_of_toNat_eq (by simp [wordArg_toNat])

namespace Machine

section
variable {s : State} {l : List Input}

/-- The host's configuration move depends on no other part of the input. -/
theorem configure_withInputs (config : (s.withInputs l).input.config = s.input.config) :
    (s.withInputs l).configure = s.configure.map (State.withInputs · l) := by
  cases move : s.input.config with
  | none =>
    rw [configure_none move, configure_none (config.trans move)]
    rfl
  | some c =>
    rw [move] at config
    cases busy : s.busy with
    | true =>
      rw [configure_busy move busy, configure_busy config busy]
      rfl
    | false =>
      cases bound : c.pollMax with
      | zero =>
        rw [configure_pollMaxZero move busy bound, configure_pollMaxZero config busy bound]
        rfl
      | succ n =>
        have pos : 1 ≤ c.pollMax := bound ▸ Nat.succ_pos n
        rw [configure_taken move busy pos, configure_taken config busy pos]
        rfl

/-- Once the configuration is settled, a step outside IDLE reads RST and the transport's answers in its input. -/
theorem stepOn_withInputs_running (running : s.fsm ≠ .idle) (rst : (s.withInputs l).input.rst = s.input.rst)
    (same : SameAnswers (s.withInputs l).input s.input) (tail : l.tail = s.inputs.tail) :
    stepOn (s.withInputs l) = stepOn s := by
  have reset : (s.withInputs l).assertReset.advance = s.assertReset.advance :=
    advance_withInputs (s := s.assertReset) tail
  have transition (d : Operation) : ((s.withInputs l).transition d).advance = (s.transition d).advance := by
    rw [transition_withInputs d same, advance_withInputs (by rw [transition_inputs, tail])]
  simp only [stepOn, State.withInputs_hung, State.withInputs_fsm, State.withInputs_opR, State.withInputs_argR,
    State.withInputs_cfg, rst, if_neg running, advance_withInputs tail, reset, transition, runReserved_withInputs _ _ tail]

/-- Outside IDLE a step does not depend on START and CMD_WORD, the parts of its input left free here. -/
theorem step_withInputs_running (running : s.fsm ≠ .idle) (rst : (s.withInputs l).input.rst = s.input.rst)
    (config : (s.withInputs l).input.config = s.input.config) (same : SameAnswers (s.withInputs l).input s.input)
    (tail : l.tail = s.inputs.tail) : step (s.withInputs l) = step s := by
  have moved := configure_withInputs config
  cases settled : s.configure with
  | error r =>
    rw [settled] at moved
    rw [step_refused settled, step_refused moved]
  | ok s1 =>
    rw [settled] at moved
    rw [step_configured settled, step_configured moved]
    obtain ⟨-, rfl⟩ | ⟨c, -, -, -, rfl⟩ := configure_cases settled
    · exact stepOn_withInputs_running running rst same tail
    · exact stepOn_withInputs_running (s := { s with cfg := c }) running rst same tail

end

/-- Settles O18: START acceptance latches the fields of any word, and `step_withInputs_running` leaves out START and
CMD_WORD. -/
theorem startIsAcceptedInIdleOnly : Obligations.StartIsAcceptedInIdleOnly := by
  refine ⟨?accepted, ?ignored⟩
  case accepted =>
    rintro s w ⟨idle, hung⟩ ⟨rst, config, start, word⟩
    rw [step_accepts hung rst config idle start, word, wordOp_eq_ofNat_div, wordArg_eq_ofNat_toNat]
    rfl
  case ignored =>
    intro s x rest b w running _
    exact step_withInputs_running (s := { s with inputs := x :: rest })
      (l := { x with start := b, cmdWord := w } :: rest) running rfl rfl ⟨rfl, rfl, rfl, rfl, rfl⟩ rfl

end Machine

end Sys2Proof
end

section
/-! What a failure and COMPLETE report to the host (60_exceptions.md R240 to R247): RESULT as a number, and where a failure of
each group goes. -/

namespace Sys2Proof.Machine

theorem resultOf_failed_eq_ofInt (op : BitVec 3) (ppm : Half) {e : BitVec 4} (failed : e ≠ 0) :
    resultOf op e ppm = BitVec.ofInt 32 (-(e.toNat : Int)) := by
  rw [← resultOf_failed_toInt op ppm failed, BitVec.ofInt_toInt]

theorem resultOf_reading_eq_ofNat (ppm : Half) : resultOf 0 0 ppm = BitVec.ofNat 32 ppm.toNat := by
  rw [← BitVec.ofInt_natCast, ← resultOf_reading_toInt, BitVec.ofInt_toInt]

section
variable (s : State) {e : Failure}

theorem State.fail_of_argument (group : failureGroup e = .argument) :
    s.fail e = { s with err := failureCode e, fsm := .complete } := by
  simp only [State.fail, failureRoute, group]

theorem State.fail_of_transport (group : failureGroup e = .transport) :
    s.fail e = { s with err := failureCode e, fsm := .cfFlush } := by
  simp only [State.fail, failureRoute, group]

theorem State.fail_of_validation (group : failureGroup e = .validation) :
    s.fail e = { s with
      err := failureCode e, fsm := if s.cfg.flushOnValidationFail = true then .cfFlush else .complete } := by
  simp only [State.fail, failureRoute, group]

end

/-- Settles O32: COMPLETE of any operation is `exec_complete`, whose RESULT is a number by ERR and OP. -/
theorem completeReportsTheOutcome : Obligations.CompleteReportsTheOutcome := by
  intro s a at_ t
  refine ⟨?failure, ?success⟩
  case failure =>
    intro failed i
    rw [exec_complete i at_, resultOf_failed_eq_ofInt i.op s.ppm failed]
  case success =>
    intro ok
    have setting {i : Instr} (op : i.op ≠ 0) : exec i s = .next { t with result := 0 } := by
      have result : resultOf i.op s.err s.ppm = 0 := ok ▸ resultOf_setting s.ppm op
      rw [exec_complete i at_, result]
    refine ⟨?reading, setting (i := .calZero a) ?_, setting (i := .calSpan a) ?_, setting (i := .setAbc a) ?_,
      setting (i := .setRange a) ?_⟩
    case reading =>
      have result : resultOf 0 s.err s.ppm = BitVec.ofNat 32 s.ppm.toNat := ok ▸ resultOf_reading_eq_ofNat s.ppm
      rw [← result]
      exact exec_complete (.readCo2 a) at_
    all_goals simp [Instr.op]

/-- Settles O33: each failure's group gives the route. -/
theorem failuresTakeTheirCodeAndRoute : Obligations.FailuresTakeTheirCodeAndRoute := fun s =>
  ⟨s.fail_of_argument rfl, s.fail_of_transport rfl, s.fail_of_transport rfl, s.fail_of_transport rfl,
    s.fail_of_transport rfl, s.fail_of_validation rfl, s.fail_of_validation rfl, s.fail_of_validation rfl⟩

end Sys2Proof.Machine
end

section
/-! A call that never returns (70_reset_and_hazards.md R284): the step that makes it writes nothing, and an engine that hangs
in it only uses up its inputs. -/

namespace Sys2Proof.Machine

section
variable {s : State}

/-- A step whose blocking call does not return records the call and hangs, whichever of the blocking states it is in. -/
theorem transition_blocked {c : Call} (d : Operation) (blocking : s.fsm.mayHang = true) (call : s.nextCall = some c)
    (silent : s.input.returns = false) : s.transition d = { s with calls := c :: s.calls, hung := true } := by
  cases transition_cases s d
  case blocked made _ eq => rw [eq, Option.some.inj (call.symm.trans made)]
  case sent ret _ | shortWrite ret _ _ | fullWrite ret _ _ | shortRead ret _ _ | fullRead ret _ _ | flushed ret _ |
      drainEmpty ret _ _ | drainByte ret _ _ =>
    rw [silent] at ret; cases ret
  case drainDone at_ left _ => simp [State.nextCall, at_, left] at call
  all_goals simp [Fsm.mayHang, ‹s.fsm = _›] at blocking

theorem exec_blocked {c : Call} (i : Instr) (blocking : s.fsm.mayHang = true) (call : s.nextCall = some c)
    (silent : s.input.returns = false) : exec i s = .next { s.after [c] with hung := true } := by
  rw [exec_eq, transition_blocked _ blocking call silent]
  rfl

/-- A hung engine reads neither RST nor START (log 4). -/
theorem step_hung (hung : s.hung = true) (config : s.input.config = none) : step s = .next s.advance := by
  rw [step_configured (configure_none config)]
  simp only [stepOn, hung, if_true]

theorem run_hung (n : Nat) (hung : s.hung = true) (listed : n ≤ s.inputs.length)
    (config : ∀ x ∈ s.inputs.take n, x.config = none) :
    s.run n = .next { s with inputs := s.inputs.drop n, tick := s.tick + n } := by
  induction n generalizing s with
  | zero => rfl
  | succ n ih =>
    obtain ⟨x, rest, inputs⟩ := List.exists_cons_of_length_pos (Nat.zero_lt_of_lt listed)
    simp only [inputs, List.length_cons, Nat.add_le_add_iff_right, List.take_succ_cons, List.forall_mem_cons]
      at listed config
    obtain ⟨first, later⟩ := config
    have tail : s.advance.inputs = rest := congrArg List.tail inputs
    calc s.run (n + 1)
      _ = s.advance.run n := run_succ n (step_hung hung (by rw [State.input_cons inputs, first]))
      _ = .next { s.advance with inputs := s.advance.inputs.drop n, tick := s.advance.tick + n } :=
          ih hung (tail ▸ listed) (tail ▸ later)
      _ = _ := by simp [State.advance, inputs, Nat.add_assoc, Nat.add_comm 1 n]

end

/-- Settles O55: the step of the call is `exec_blocked`, and the steps after it are `run_hung`, by induction on their
number. -/
theorem callThatNeverReturnsHangsForGood : Obligations.CallThatNeverReturnsHangsForGood :=
  ⟨fun i _ _ => exec_blocked i, fun n _ => run_hung n⟩

end Sys2Proof.Machine
end
